-- ==== Sys2Proof/Config.lean ====
section
/-!
DEFINITION. The configuration of one CRCDIV: the two capacity parameters (00_scope.md R6, R7). They are configuration,
not state (10_state.md R20); a state carries them as a field that no step writes (log entry 1).
-/

namespace Sys2Proof

/-- The parameters DIV_CAP and MSG_CAP (00_scope.md R6, R7). -/
structure Config where
  /-- DIV_CAP, the largest divisor length in bits (R6). -/
  divCap : Nat
  /-- MSG_CAP, the largest message length in bits (R7). -/
  msgCap : Nat
  deriving DecidableEq, Repr

/-- The legal parameter values: 2 ≤ DIV_CAP ≤ 33 (R6) and 1 ≤ MSG_CAP ≤ 65535 (R7). -/
abbrev Config.Legal (c : Config) : Prop :=
  (2 ≤ c.divCap ∧ c.divCap ≤ 33) ∧ (1 ≤ c.msgCap ∧ c.msgCap ≤ 65535)

/-- WCAP, the largest working-buffer length (R8). -/
def Config.wcap (c : Config) : Nat := c.msgCap + c.divCap - 1

/-- The reference values of R6 and R7. DESIGN CHOICE, log entry 1: State.reset is built on them. -/
def Config.reference : Config := ⟨33, 1024⟩

end Sys2Proof
end

