-- ==== Sys2Proof/Word.lean ====
section
/-!
DEFINITION. The fixed-width words of CRCDIV: the 32-bit register word, the 4-bit register index and the 37-bit
transaction key (00_scope.md R9, 20_memory.md R60, 30_encoding.md R80).
-/

namespace Sys2Proof

/-- A register word: 32 bits, bit 0 the least significant (00_scope.md R9, 20_memory.md R63). -/
abbrev Word := BitVec 32

/-- A register word index IDX: 4 bits (20_memory.md R60). -/
abbrev Index := BitVec 4

/-- The key K of one transaction: WE in bit 36, IDX in bits 35 to 32, DATA in bits 31 to 0 (30_encoding.md R80). -/
abbrev Key := BitVec 37

end Sys2Proof
end

