-- ==== Sys2Proof/Machine/State.lean ====
section
/-!
DEFINITION. The state of CRCDIV as plain data: every element 10_state.md R20 lists, under its own name, and three fields of
the model's own (the configuration, the interleaving still to come and the values the host has read; log entries 1, 2, 3).
-/

namespace Sys2Proof.Machine

/-- eng, the engine agent's control state (10_state.md R25). -/
inductive Eng where
  /-- IDLE: no computation is running. -/
  | idle
  /-- RUN: a computation was accepted by START and has neither finished nor been aborted. -/
  | run
  deriving DecidableEq, Repr

/-- The five sticky error flags (60_exceptions.md R181 to R185). -/
inductive ErrorFlag where
  /-- ERR_INV_DIV (R181). -/
  | invDiv
  /-- ERR_INV_BIT (R182). -/
  | invBit
  /-- ERR_CAP (R183). -/
  | cap
  /-- ERR_BUSY (R184). -/
  | busy
  /-- ERR_CMD (R185). -/
  | cmd
  deriving DecidableEq, Repr

/-- An access a byte-addressed host puts to the bus adapter (20_memory.md R64). The adapter hands the data over as a word;
which byte lane carries which byte is BUS_BYTE_ORDER, on which nothing here depends. -/
structure BusAccess where
  /-- A write. -/
  we : Bool
  /-- The byte offset into the register window. -/
  offset : Nat
  /-- The access size in bytes. -/
  size : Nat
  /-- The write data. -/
  data : Word
  deriving DecidableEq, Repr

/-- One item of the interleaving of host, engine and reset (20_memory.md R70; log entry 2). -/
inductive Input where
  /-- A host transaction with key k (30_encoding.md R80). -/
  | transaction (k : Key)
  /-- A host access through a byte-addressed adapter (20_memory.md R64). -/
  | busAccess (a : BusAccess)
  /-- A host transaction issued while reset is held (70_reset_and_hazards.md R210). -/
  | transactionInReset (k : Key)
  /-- The engine's turn: it performs an engine step where it has one (42_engine.md R150). -/
  | engineTurn
  /-- The reset input (70_reset_and_hazards.md R210). -/
  | reset
  deriving DecidableEq, Repr

/-- Why a step stops with a fault. -/
inductive Fault where
  /-- Raised by an engine step alone, where eng = RUN and div_len is 0, differs from |D| or exceeds 33: the step would read
  outside D or has no remainder width that RESULT holds. Such a state is excluded by 10_state.md R42 and R44, and 42_engine.md R150
  says that no engine step faults on a reachable state. Safe: no spec state reaches it (log entry 7). -/
  | engineOutOfRange
  deriving DecidableEq, Repr

/-- Why a step gives no meaning to what it is asked to do. -/
inductive Refusal where
  /-- An instruction without a meaning, by its mnemonic. Raised by no arm: every instruction has its meaning. Safe. -/
  | notModelled (mnemonic : String)
  /-- A byte-addressed access that is no whole aligned word of the register window: not a CRCDIV transaction, and a model
  refuses it (20_memory.md R64). Raised by the step that meets such an access. Safe (log entry 6). -/
  | notAWordTransaction
  /-- A host transaction issued while reset is held: not defined, and a model refuses it (70_reset_and_hazards.md R210).
  Raised by the step that meets one. Safe (log entry 5). -/
  | transactionDuringReset
  deriving DecidableEq, Repr

/-- The complete state (10_state.md R20), and the model's own fields cfg, inputs and replies. Sequences are lists with
element 0 first (00_scope.md R11). -/
structure State where
  /-- The parameters DIV_CAP and MSG_CAP (00_scope.md R6, R7). Configuration: no step writes it (log entry 1). -/
  cfg : Config
  /-- M, the message store (R22). -/
  M : List Bool
  /-- msg_len (R22). -/
  msgLen : Nat
  /-- msg_bad: some MSG_PUSH since the last message clear carried an invalid symbol (R22). -/
  msgBad : Bool
  /-- msg_ovf: some MSG_PUSH since the last message clear found the store full (R22). -/
  msgOvf : Bool
  /-- D, the divisor store (R23). -/
  D : List Bool
  /-- div_len (R23). -/
  divLen : Nat
  /-- div_bad, as msg_bad for DIV_PUSH (R23). -/
  divBad : Bool
  /-- div_ovf, as msg_ovf for DIV_PUSH (R23). -/
  divOvf : Bool
  /-- W, the working buffer (R24). -/
  W : List Bool
  /-- eng (R25). -/
  eng : Eng
  /-- done: the last accepted START finished with a result (R25). -/
  done : Bool
  /-- err_inv_div (R25). -/
  errInvDiv : Bool
  /-- err_inv_bit (R25). -/
  errInvBit : Bool
  /-- err_cap (R25). -/
  errCap : Bool
  /-- err_busy (R25). -/
  errBusy : Bool
  /-- err_cmd (R25). -/
  errCmd : Bool
  /-- result, the packed remainder or 0 (R26, R37). -/
  result : Word
  /-- rlen, the remainder's width or 0 (R26, R38). -/
  rlen : BitVec 6
  /-- steps, the iterations of the current or last accepted computation (R26, R39). -/
  steps : BitVec 32
  /-- ie, the interrupt enable CTRL.IE (R26, R30). -/
  ie : Bool
  /-- The model's own: the interleaving still to come, next item first (20_memory.md R70; log entry 2). -/
  inputs : List Input
  /-- The model's own: the values the host's reads returned, oldest first (20_memory.md R60; log entry 3). -/
  replies : List Word
  deriving DecidableEq, Repr

/-- The state after reset of a block with the parameters c: every element at its value of 10_state.md R43, no input to come
and nothing read. -/
def State.resetWith (c : Config) : State where
  cfg := c
  M := []
  msgLen := 0
  msgBad := false
  msgOvf := false
  D := []
  divLen := 0
  divBad := false
  divOvf := false
  W := []
  eng := .idle
  done := false
  errInvDiv := false
  errInvBit := false
  errCap := false
  errBusy := false
  errCmd := false
  result := 0#32
  rlen := 0#6
  steps := 0#32
  ie := false
  inputs := []
  replies := []

/-- The machine right after reset (10_state.md R43, 70_reset_and_hazards.md R210), with the reference parameters (log entry 1). -/
def State.reset : State := State.resetWith Config.reference

end Sys2Proof.Machine
end

