-- ==== Sys2Proof/Machine/Flags.lean ====
section
/-!
DEFINITION. What is computed from the flags: the irq output (60_exceptions.md R190), the STATUS word (10_state.md R32) and the
three validation conditions of START (60_exceptions.md R181 to R183).
-/

namespace Sys2Proof.Machine

/-- A flag at bit n of a register word, every other bit 0. -/
def flagAt (b : Bool) (n : Nat) : Word := (BitVec.ofBool b).setWidth 32 <<< n

/-- The error code of an error: its STATUS bit position (60_exceptions.md R180 to R185). -/
def errorCode : ErrorFlag → Nat
  | .invDiv => 2
  | .invBit => 3
  | .cap => 4
  | .busy => 5
  | .cmd => 6

/-- The sticky flag of an error (10_state.md R25). -/
def State.error (s : State) : ErrorFlag → Bool
  | .invDiv => s.errInvDiv
  | .invBit => s.errInvBit
  | .cap => s.errCap
  | .busy => s.errBusy
  | .cmd => s.errCmd

/-- The interrupt output: ie and (done or any error flag), a level and not state (60_exceptions.md R190). -/
def State.irq (s : State) : Bool :=
  s.ie && (s.done || s.errInvDiv || s.errInvBit || s.errCap || s.errBusy || s.errCmd)

/-- STATUS.BUSY: eng = RUN (10_state.md R32). -/
def State.busy (s : State) : Bool := s.eng == .run

/-- reg(STATUS) (10_state.md R32): bits 31 to 12 read 0. -/
def State.status (s : State) : Word :=
  flagAt s.divOvf 11 ||| flagAt s.msgOvf 10 ||| flagAt s.divBad 9 ||| flagAt s.msgBad 8 ||| flagAt s.irq 7
    ||| flagAt s.errCmd (errorCode .cmd) ||| flagAt s.errBusy (errorCode .busy) ||| flagAt s.errCap (errorCode .cap)
    ||| flagAt s.errInvBit (errorCode .invBit) ||| flagAt s.errInvDiv (errorCode .invDiv)
    ||| flagAt s.done 1 ||| flagAt s.busy 0

/-- The InvalidDivisor condition: div_len < 2 or D[0] ≠ 1, where D[0] is read only when div_len ≥ 1 (60_exceptions.md R181). -/
def State.invalidDivisor (s : State) : Bool := decide (s.divLen < 2) || s.D.head? != some true

/-- The InvalidBit condition (60_exceptions.md R182). -/
def State.invalidBit (s : State) : Bool := s.msgBad || s.divBad

/-- The CapacityExceeded condition (60_exceptions.md R183). -/
def State.capacityExceeded (s : State) : Bool := s.msgOvf || s.divOvf

/-- Some validation condition holds, so no computation begins (60_exceptions.md R186). -/
def State.rejectsStart (s : State) : Bool := s.invalidDivisor || s.invalidBit || s.capacityExceeded

end Sys2Proof.Machine
end

