-- ==== Sys2Proof/Syntax.lean ====
section
/-!
DEFINITION. The instructions of CRCDIV: one constructor per row of spec/opcode_table.json. An instruction is one host
transaction (10_state.md R21); a command is a write to CMD (30_encoding.md R81). A write carries its DATA also where
the block ignores it; a read presents no DATA (R80).
-/

namespace Sys2Proof

/-- One host transaction (30_encoding.md R83, R84). -/
inductive Instr where
  /-- RD_ID: read the identification register (R100). -/
  | rdId
  /-- RD_CFG: read the configuration register (R102). -/
  | rdCfg
  /-- RD_CTRL: read the control register (R104). -/
  | rdCtrl
  /-- RD_CMD: read of the write-only command register (R106). -/
  | rdCmd
  /-- RD_STATUS: read the status register (R107). -/
  | rdStatus
  /-- RD_DIV_PUSH: read of the write-only divisor push port (R109). -/
  | rdDivPush
  /-- RD_MSG_PUSH: read of the write-only message push port (R111). -/
  | rdMsgPush
  /-- RD_DIV_LEN: read the divisor length (R113). -/
  | rdDivLen
  /-- RD_MSG_LEN: read the message length (R115). -/
  | rdMsgLen
  /-- RD_RESULT: read the packed remainder (R117). -/
  | rdResult
  /-- RD_RLEN: read the remainder width (R119). -/
  | rdRlen
  /-- RD_STEPS: read the iteration count (R121). -/
  | rdSteps
  /-- WR_ID: write to the identification register (R101). -/
  | wrId (data : Word)
  /-- WR_CFG: write to the configuration register (R103). -/
  | wrCfg (data : Word)
  /-- WR_CTRL: write the control register (R105). -/
  | wrCtrl (data : Word)
  /-- WR_STATUS: write to the status register (R108). -/
  | wrStatus (data : Word)
  /-- WR_DIV_PUSH: append one symbol to the divisor (R110). -/
  | wrDivPush (data : Word)
  /-- WR_MSG_PUSH: append one symbol to the message (R112). -/
  | wrMsgPush (data : Word)
  /-- WR_DIV_LEN: write to the divisor length register (R114). -/
  | wrDivLen (data : Word)
  /-- WR_MSG_LEN: write to the message length register (R116). -/
  | wrMsgLen (data : Word)
  /-- WR_RESULT: write to the result register (R118). -/
  | wrResult (data : Word)
  /-- WR_RLEN: write to the remainder width register (R120). -/
  | wrRlen (data : Word)
  /-- WR_STEPS: write to the iteration counter (R122). -/
  | wrSteps (data : Word)
  /-- RD_RSVD: read of a reserved index 12 to 15 (R123). -/
  | rdRsvd (idx : Index)
  /-- WR_RSVD: write to a reserved index 12 to 15 (R124). -/
  | wrRsvd (idx : Index) (data : Word)
  /-- NOP: command 0, no operation (R131). -/
  | nop
  /-- CLEAR: command 1, empty the block and abort (R132). -/
  | clear
  /-- START: command 2, validate and begin a computation (R133). -/
  | start
  /-- CLR_MSG: command 3, empty the message store (R134). -/
  | clrMsg
  /-- CLR_DIV: command 4, empty the divisor store (R135). -/
  | clrDiv
  /-- ACK: command 5, acknowledge completion and errors (R136). -/
  | ack
  /-- CMD_RSVD: a reserved command word (R137). -/
  | cmdRsvd (word : Word)
  deriving DecidableEq, Repr

/-- The mnemonic of an instruction's row of spec/opcode_table.json. -/
def Instr.mnemonic : Instr → String
  | .rdId => "RD_ID"
  | .rdCfg => "RD_CFG"
  | .rdCtrl => "RD_CTRL"
  | .rdCmd => "RD_CMD"
  | .rdStatus => "RD_STATUS"
  | .rdDivPush => "RD_DIV_PUSH"
  | .rdMsgPush => "RD_MSG_PUSH"
  | .rdDivLen => "RD_DIV_LEN"
  | .rdMsgLen => "RD_MSG_LEN"
  | .rdResult => "RD_RESULT"
  | .rdRlen => "RD_RLEN"
  | .rdSteps => "RD_STEPS"
  | .wrId _ => "WR_ID"
  | .wrCfg _ => "WR_CFG"
  | .wrCtrl _ => "WR_CTRL"
  | .wrStatus _ => "WR_STATUS"
  | .wrDivPush _ => "WR_DIV_PUSH"
  | .wrMsgPush _ => "WR_MSG_PUSH"
  | .wrDivLen _ => "WR_DIV_LEN"
  | .wrMsgLen _ => "WR_MSG_LEN"
  | .wrResult _ => "WR_RESULT"
  | .wrRlen _ => "WR_RLEN"
  | .wrSteps _ => "WR_STEPS"
  | .rdRsvd _ => "RD_RSVD"
  | .wrRsvd _ _ => "WR_RSVD"
  | .nop => "NOP"
  | .clear => "CLEAR"
  | .start => "START"
  | .clrMsg => "CLR_MSG"
  | .clrDiv => "CLR_DIV"
  | .ack => "ACK"
  | .cmdRsvd _ => "CMD_RSVD"

end Sys2Proof
end

