-- ==== Sys2Proof/WellFormed.lean ====
section
/-!
DEFINITION. Which terms of Instr stand for a transaction: a reserved index is 12 to 15 (30_encoding.md R83), a reserved
command word is none of the six defined ones (R84). Every other operand is a whole 32-bit word, so every value is well formed.
-/

namespace Sys2Proof

/-- The indices of RD_RSVD and WR_RSVD: 12 to 15 (30_encoding.md R83). -/
def reservedIndex (idx : Index) : Bool := 12 ≤ idx.toNat

/-- The words of CMD_RSVD: every word but 0 to 5 (30_encoding.md R84). -/
def reservedCommand (word : Word) : Bool := 6 ≤ word.toNat

/-- The instruction stands for a transaction of the interface. -/
def Instr.wf : Instr → Bool
  | .rdRsvd idx => reservedIndex idx
  | .wrRsvd idx _ => reservedIndex idx
  | .cmdRsvd word => reservedCommand word
  | .rdId | .rdCfg | .rdCtrl | .rdCmd | .rdStatus | .rdDivPush | .rdMsgPush | .rdDivLen | .rdMsgLen => true
  | .rdResult | .rdRlen | .rdSteps => true
  | .wrId _ | .wrCfg _ | .wrCtrl _ | .wrStatus _ | .wrDivPush _ | .wrMsgPush _ | .wrDivLen _ | .wrMsgLen _ => true
  | .wrResult _ | .wrRlen _ | .wrSteps _ => true
  | .nop | .clear | .start | .clrMsg | .clrDiv | .ack => true

end Sys2Proof
end

