-- ==== Sys2Proof/Decode.lean ====
section
/-!
DEFINITION. From a transaction key K to its instruction and back (30_encoding.md R80 to R89). Every 37-bit key has exactly
one meaning (R85), so decoding a key never refuses; a number that is no 37-bit key is rejected by name.
-/

namespace Sys2Proof

/-! ### The three fields of a key (R80) -/

/-- K = WE·2^36 + IDX·2^32 + DATA (R80). -/
def mkKey (we : Bool) (idx : Index) (data : Word) : Key := BitVec.ofBool we ++ idx ++ data

/-- WE = K[36] (R80). -/
def keyWe (k : Key) : Bool := k.getLsbD 36

/-- IDX = K[35:32] (R80). -/
def keyIndex (k : Key) : Index := k.extractLsb' 32 4

/-- DATA = K[31:0] (R80). -/
def keyData (k : Key) : Word := k.extractLsb' 0 32

/-! ### Decoding -/

/-- The read (WE = 0) of each index (R83); its DATA is not read (R82). -/
def decodeRead (idx : Index) : Instr :=
  match idx.toNat with
  | 0 => .rdId
  | 1 => .rdCfg
  | 2 => .rdCtrl
  | 3 => .rdCmd
  | 4 => .rdStatus
  | 5 => .rdDivPush
  | 6 => .rdMsgPush
  | 7 => .rdDivLen
  | 8 => .rdMsgLen
  | 9 => .rdResult
  | 10 => .rdRlen
  | 11 => .rdSteps
  | _ => .rdRsvd idx

/-- Format C: the command word is decoded as a whole (R81, R84); the six exact words come before the reserved ones (R85). -/
def decodeCommand (word : Word) : Instr :=
  match word.toNat with
  | 0 => .nop
  | 1 => .clear
  | 2 => .start
  | 3 => .clrMsg
  | 4 => .clrDiv
  | 5 => .ack
  | _ => .cmdRsvd word

/-- The write (WE = 1) to each index (R83). -/
def decodeWrite (idx : Index) (data : Word) : Instr :=
  match idx.toNat with
  | 0 => .wrId data
  | 1 => .wrCfg data
  | 2 => .wrCtrl data
  | 3 => decodeCommand data
  | 4 => .wrStatus data
  | 5 => .wrDivPush data
  | 6 => .wrMsgPush data
  | 7 => .wrDivLen data
  | 8 => .wrMsgLen data
  | 9 => .wrResult data
  | 10 => .wrRlen data
  | 11 => .wrSteps data
  | _ => .wrRsvd idx data

/-- The instruction of a key: WE and IDX are read first, DATA only for a write (R82, R83). Total: every key has one (R85). -/
def decodeKey (k : Key) : Instr :=
  if keyWe k then decodeWrite (keyIndex k) (keyData k) else decodeRead (keyIndex k)

/-- Why a number of bits is no transaction. -/
inductive DecodeError where
  /-- A bit above K[36] is set: the number is no 37-bit key of format T (R80). -/
  | notAKey (bits : Nat)
  deriving DecidableEq, Repr

/-- The 37-bit key a number stands for, where it stands for one (R80). -/
def keyOfNat (w : Nat) : Option Key := if w < 2 ^ 37 then some (BitVec.ofNat 37 w) else none

/-- Decoding of any number of bits: the key's instruction, or the reason that it is no key. -/
def decode (w : Nat) : Except DecodeError Instr :=
  match keyOfNat w with
  | some k => .ok (decodeKey k)
  | none => .error (.notAKey w)

/-- The number of an instruction given as a table word: its low nbits bits, every bit above them 0. -/
def tableNat (nbits w : Nat) : Nat := w % 2 ^ nbits

/-- What the decoder reads from an instruction whose bits are w, numbered as spec/opcode_table.json numbers them. The
interface moves a whole key at once (20_memory.md R60), so there is no byte layout between the table's bits and K. -/
def decodeTableWord (nbits w : Nat) : Option Instr := (decode (tableNat nbits w)).toOption

/-! ### Encoding, from the same tables (R83, R84) -/

/-- The key of a read: DATA is 0 by convention (R80). -/
def readKey (idx : Index) : Key := mkKey false idx 0#32

/-- The key of a write. -/
def writeKey (idx : Index) (data : Word) : Key := mkKey true idx data

/-- The key of a command: a write to CMD, IDX 3 (R81). -/
def commandKey (word : Word) : Key := writeKey 3#4 word

/-- The key of an instruction. -/
def encode : Instr → Key
  | .rdId => readKey 0#4
  | .rdCfg => readKey 1#4
  | .rdCtrl => readKey 2#4
  | .rdCmd => readKey 3#4
  | .rdStatus => readKey 4#4
  | .rdDivPush => readKey 5#4
  | .rdMsgPush => readKey 6#4
  | .rdDivLen => readKey 7#4
  | .rdMsgLen => readKey 8#4
  | .rdResult => readKey 9#4
  | .rdRlen => readKey 10#4
  | .rdSteps => readKey 11#4
  | .wrId data => writeKey 0#4 data
  | .wrCfg data => writeKey 1#4 data
  | .wrCtrl data => writeKey 2#4 data
  | .wrStatus data => writeKey 4#4 data
  | .wrDivPush data => writeKey 5#4 data
  | .wrMsgPush data => writeKey 6#4 data
  | .wrDivLen data => writeKey 7#4 data
  | .wrMsgLen data => writeKey 8#4 data
  | .wrResult data => writeKey 9#4 data
  | .wrRlen data => writeKey 10#4 data
  | .wrSteps data => writeKey 11#4 data
  | .rdRsvd idx => readKey idx
  | .wrRsvd idx data => writeKey idx data
  | .nop => commandKey 0#32
  | .clear => commandKey 1#32
  | .start => commandKey 2#32
  | .clrMsg => commandKey 3#32
  | .clrDiv => commandKey 4#32
  | .ack => commandKey 5#32
  | .cmdRsvd word => commandKey word

/-! ### The opcode table itself, as data (R80, R85) -/

/-- One row of spec/opcode_table.json. -/
structure OpcodeRow where
  /-- The row's mnemonic. -/
  mnemonic : String
  /-- The row's "match". -/
  pattern : Key
  /-- The row's "mask". -/
  mask : Key
  deriving DecidableEq, Repr

/-- The key matches the row. -/
def OpcodeRow.fits (r : OpcodeRow) (k : Key) : Bool := k &&& r.mask == r.pattern

/-- The row of CMD_RSVD, which applies only where no exact command row matches (R85). -/
def reservedCommandRow : OpcodeRow := ⟨"CMD_RSVD", 0x1300000000#37, 0x1F00000000#37⟩

/-- Every row but CMD_RSVD: these rows are disjoint (R85). -/
def exactRows : List OpcodeRow := [
  ⟨"RD_ID", 0x0000000000#37, 0x1F00000000#37⟩,
  ⟨"RD_CFG", 0x0100000000#37, 0x1F00000000#37⟩,
  ⟨"RD_CTRL", 0x0200000000#37, 0x1F00000000#37⟩,
  ⟨"RD_CMD", 0x0300000000#37, 0x1F00000000#37⟩,
  ⟨"RD_STATUS", 0x0400000000#37, 0x1F00000000#37⟩,
  ⟨"RD_DIV_PUSH", 0x0500000000#37, 0x1F00000000#37⟩,
  ⟨"RD_MSG_PUSH", 0x0600000000#37, 0x1F00000000#37⟩,
  ⟨"RD_DIV_LEN", 0x0700000000#37, 0x1F00000000#37⟩,
  ⟨"RD_MSG_LEN", 0x0800000000#37, 0x1F00000000#37⟩,
  ⟨"RD_RESULT", 0x0900000000#37, 0x1F00000000#37⟩,
  ⟨"RD_RLEN", 0x0A00000000#37, 0x1F00000000#37⟩,
  ⟨"RD_STEPS", 0x0B00000000#37, 0x1F00000000#37⟩,
  ⟨"WR_ID", 0x1000000000#37, 0x1F00000000#37⟩,
  ⟨"WR_CFG", 0x1100000000#37, 0x1F00000000#37⟩,
  ⟨"WR_CTRL", 0x1200000000#37, 0x1F00000000#37⟩,
  ⟨"WR_STATUS", 0x1400000000#37, 0x1F00000000#37⟩,
  ⟨"WR_DIV_PUSH", 0x1500000000#37, 0x1F00000000#37⟩,
  ⟨"WR_MSG_PUSH", 0x1600000000#37, 0x1F00000000#37⟩,
  ⟨"WR_DIV_LEN", 0x1700000000#37, 0x1F00000000#37⟩,
  ⟨"WR_MSG_LEN", 0x1800000000#37, 0x1F00000000#37⟩,
  ⟨"WR_RESULT", 0x1900000000#37, 0x1F00000000#37⟩,
  ⟨"WR_RLEN", 0x1A00000000#37, 0x1F00000000#37⟩,
  ⟨"WR_STEPS", 0x1B00000000#37, 0x1F00000000#37⟩,
  ⟨"RD_RSVD", 0x0C00000000#37, 0x1C00000000#37⟩,
  ⟨"WR_RSVD", 0x1C00000000#37, 0x1C00000000#37⟩,
  ⟨"NOP", 0x1300000000#37, 0x1FFFFFFFFF#37⟩,
  ⟨"CLEAR", 0x1300000001#37, 0x1FFFFFFFFF#37⟩,
  ⟨"START", 0x1300000002#37, 0x1FFFFFFFFF#37⟩,
  ⟨"CLR_MSG", 0x1300000003#37, 0x1FFFFFFFFF#37⟩,
  ⟨"CLR_DIV", 0x1300000004#37, 0x1FFFFFFFFF#37⟩,
  ⟨"ACK", 0x1300000005#37, 0x1FFFFFFFFF#37⟩]

/-- The rows in the order a decoder applies them (R85). -/
def opcodeRows : List OpcodeRow := exactRows ++ [reservedCommandRow]

/-- The row a key selects: the first that it matches (R85). -/
def selectRow (k : Key) : Option OpcodeRow := opcodeRows.find? (fun r => r.fits k)

end Sys2Proof
end

