-- ==== Sys2Proof/Machine/Operands.lean ====
section
/-!
DEFINITION. The operands of transactions: the symbol of a push (30_encoding.md R86), the IE bit of a write to CTRL (R87) and
the byte-addressed form of an access (20_memory.md R64). No operand is sign-extended, scaled or shifted (R88).
-/

namespace Sys2Proof.Machine

/-- valid(DATA): the symbol is 0 or 1 as a whole word (30_encoding.md R86). -/
def symbolValid (data : Word) : Bool := data == 0#32 || data == 1#32

/-- bit(DATA): an invalid symbol is stored as 0 (30_encoding.md R86). -/
def symbolBit (data : Word) : Bool := data == 1#32

/-- The new IE of a write to CTRL: DATA[0]; DATA[31:1] is ignored (30_encoding.md R87). -/
def ctrlEnable (data : Word) : Bool := data.getLsbD 0

/-- The access is a whole aligned word of the 16-word register window (20_memory.md R64, 10_state.md R27). -/
def BusAccess.wholeWord (a : BusAccess) : Bool := a.size == 4 && a.offset % 4 == 0 && decide (a.offset < 64)

/-- The key of a byte-addressed access: register IDX stands at byte offset 4·IDX. An access that is no whole aligned word is
no transaction (20_memory.md R64). A read presents no DATA (30_encoding.md R80). -/
def BusAccess.key (a : BusAccess) : Option Key :=
  if a.wholeWord then some (mkKey a.we (BitVec.ofNat 4 (a.offset / 4)) (if a.we then a.data else 0#32)) else none

end Sys2Proof.Machine
end

