-- ==== Sys2Proof/Machine/Ops.lean ====
section
/-!
DEFINITION. The named operations over the state: what a read answers, appending to and emptying the stores, raising and
clearing errors (CRCDIV's exceptions, 60_exceptions.md R180), the guard of the writes rejected while BUSY, and the reset event.
CRCDIV has no memory (20_memory.md R61), so there are no memory operations.
-/

namespace Sys2Proof.Machine

/-- What a transaction answers: a next state, always; no transaction faults or is refused (60_exceptions.md R195). -/
abbrev Out := Host.Outcome State Fault Refusal

/-! ### Reads -/

/-- A read returns v to the host and changes no state of the block (20_memory.md R60, R67; log entry 3). -/
def State.reply (s : State) (v : Word) : State := { s with replies := s.replies ++ [v] }

/-- The value of ID (10_state.md R28). -/
def idValue : Word := 0x43524344#32

/-- The value of CFG: MSG_CAP in bits 31 to 16, DIV_CAP in bits 5 to 0 (10_state.md R29). -/
def State.cfgWord (s : State) : Word := BitVec.ofNat 32 s.cfg.msgCap <<< 16 ||| BitVec.ofNat 32 s.cfg.divCap

/-! ### The stores -/

/-- Append one symbol to the message store: an invalid symbol sets msg_bad, a full store sets msg_ovf and drops the element
(40_host_access.md R112, performed when eng = IDLE). -/
def State.appendMsg (s : State) (data : Word) : State :=
  let s1 := if symbolValid data then s else { s with msgBad := true }
  if s1.msgLen = s1.cfg.msgCap then { s1 with msgOvf := true }
  else { s1 with M := s1.M ++ [symbolBit data], msgLen := s1.msgLen + 1 }

/-- Append one symbol to the divisor store (40_host_access.md R110, performed when eng = IDLE). -/
def State.appendDiv (s : State) (data : Word) : State :=
  let s1 := if symbolValid data then s else { s with divBad := true }
  if s1.divLen = s1.cfg.divCap then { s1 with divOvf := true }
  else { s1 with D := s1.D ++ [symbolBit data], divLen := s1.divLen + 1 }

/-- Empty the message store with its length and its two input flags (41_commands.md R134). -/
def State.emptyMsg (s : State) : State := { s with M := [], msgLen := 0, msgBad := false, msgOvf := false }

/-- Empty the divisor store with its length and its two input flags (41_commands.md R135). -/
def State.emptyDiv (s : State) : State := { s with D := [], divLen := 0, divBad := false, divOvf := false }

/-! ### Errors: CRCDIV's exceptions (60_exceptions.md) -/

/-- Taking an error: its sticky flag is set and nothing else happens; no state is saved, control goes nowhere (R180, R187, R193).
An error raised again leaves its flag 1, and no error clears another (R189). -/
def State.raise (s : State) : ErrorFlag → State
  | .invDiv => { s with errInvDiv := true }
  | .invBit => { s with errInvBit := true }
  | .cap => { s with errCap := true }
  | .busy => { s with errBusy := true }
  | .cmd => { s with errCmd := true }

/-- Raise an error where its condition holds. -/
def State.raiseIf (s : State) (c : Bool) (e : ErrorFlag) : State := if c then s.raise e else s

/-- Clearing errors, the return from an error: done and the five error flags become 0; there is nothing to restore (R188, R136). -/
def State.clearEvents (s : State) : State :=
  { s with done := false, errInvDiv := false, errInvBit := false, errCap := false, errBusy := false, errCmd := false }

/-- Clear the result state (41_commands.md R133, R132). -/
def State.clearResult (s : State) : State := { s with result := 0#32, rlen := 0#6, steps := 0#32 }

/-- Leave RUN, or stay IDLE, with no working buffer (41_commands.md R132). -/
def State.haltEngine (s : State) : State := { s with eng := .idle, W := [] }

/-- A write that is rejected while a computation runs: ERR_BUSY and no other effect; performed otherwise
(60_exceptions.md R184, 70_reset_and_hazards.md R220). -/
def State.unlessBusy (s : State) (f : State → State) : State :=
  match s.eng with
  | .run => s.raise .busy
  | .idle => f s

/-! ### Reset -/

/-- The reset event: every state element at its value of 10_state.md R43 (70_reset_and_hazards.md R210). The configuration, the
inputs still to come and the host's record of what it has read are not elements of the block's state. -/
def State.resetEvent (s : State) : State :=
  { State.resetWith s.cfg with inputs := s.inputs, replies := s.replies }

end Sys2Proof.Machine
end

