-- ==== Sys2Proof/Machine/Engine.lean ====
section
/-!
DEFINITION. The divider engine (42_engine.md): the primitives of an iteration and the engine steps FINISH, PAD_FINISH and
ITERATE. INIT is part of START (R151).
-/

namespace Sys2Proof.Machine

/-- The window XOR: the first n elements of w, each XORed with the element of d, written back (42_engine.md R155). -/
def windowXor (n : Nat) (d w : List Bool) : List Bool :=
  List.zipWith (fun a b => a ^^ b) (w.take n) (d.take n) ++ w.drop n

/-- The number of zero elements at the front of a sequence. -/
def leadingZeros : List Bool → Nat
  | false :: w => leadingZeros w + 1
  | _ => 0

/-- lz_r: the leading zeros among the first r positions only (42_engine.md R156). -/
def leadingZeroScan (r : Nat) (w : List Bool) : Nat := leadingZeros (w.take r)

/-- A bit sequence as a number, first element most significant: the value at x = 2 of its polynomial (42_engine.md R158). -/
def bitsToNat (w : List Bool) : Nat := w.foldl (fun acc b => 2 * acc + b.toNat) 0

/-- pack(W): element i at bit r-1-i of a register word, for |W| = r ≤ 32 (42_engine.md R158). -/
def pack (w : List Bool) : Word := BitVec.ofNat 32 (bitsToNat w)

/-- r, the remainder width: div_len - 1 (00_scope.md, glossary). -/
def State.width (s : State) : Nat := s.divLen - 1

/-- INIT: the message followed by div_len - 1 zeros (42_engine.md R151). -/
def State.initialBuffer (s : State) : List Bool := s.M ++ List.replicate s.width false

/-- FINISH: the remainder is packed into RESULT (42_engine.md R152). -/
def State.finish (s : State) : State :=
  { s with result := pack s.W, rlen := BitVec.ofNat 6 s.width, done := true, eng := .idle, W := [] }

/-- Left-pad W with zeros to r bits (42_engine.md R153). -/
def State.padBuffer (s : State) : State := { s with W := List.replicate (s.width - s.W.length) false ++ s.W }

/-- PAD_FINISH: left-pad, then the actions of FINISH (42_engine.md R153). -/
def State.padFinish (s : State) : State := s.padBuffer.finish

/-- ITERATE: XOR the divisor into the window, drop the leading zeros the scan finds, count the iteration (42_engine.md R154). -/
def State.iterate (s : State) : State :=
  let w := windowXor s.divLen s.D s.W
  { s with W := w.drop (leadingZeroScan s.width w), steps := s.steps + 1 }

/-- What an engine step needs so as to read inside D and to hold its remainder in RESULT: div_len = |D|, from 1 to 33
(10_state.md R42, R44; 42_engine.md R150; log entry 7). -/
def State.engineInRange (s : State) : Bool :=
  decide (1 ≤ s.divLen) && decide (s.divLen = s.D.length) && decide (s.divLen ≤ 33)

/-- The engine step that the length of W chooses (42_engine.md R150). -/
def State.engineRun (s : State) : State :=
  if s.W.length = s.width then s.finish
  else if s.W.length < s.width then s.padFinish
  else s.iterate

/-- The engine agent: no step when eng = IDLE (idle, not stuck), one engine step when eng = RUN (42_engine.md R150). -/
def engineStep (s : State) : Out :=
  match s.eng with
  | .idle => .next s
  | .run => if s.engineInRange then .next s.engineRun else .fault .engineOutOfRange

end Sys2Proof.Machine
end

