-- ==== Sys2Proof/Machine/Commands.lean ====
section
/-!
DEFINITION. The commands of 41_commands.md, R130 to R137: what a write to CMD does, by its whole DATA word. NOP, CLEAR, ACK and a
reserved word are performed in every state; START, CLR_MSG and CLR_DIV are rejected with ERR_BUSY while eng = RUN (R130).
-/

namespace Sys2Proof.Machine

/-- NOP: no effect, accepted in every state (41_commands.md R131). -/
def execNop (s : State) : Out := .next s

/-- CLEAR: abort, empty both stores, clear every flag and the result state; ie is unchanged (41_commands.md R132). -/
def execClear (s : State) : Out := .next s.haltEngine.emptyMsg.emptyDiv.clearEvents.clearResult

/-- The acceptance of a START: the result state of any earlier computation is cleared (41_commands.md R133). -/
def State.acceptStart (s : State) : State := s.clearEvents.clearResult

/-- A failed validation: every condition that holds sets its flag, and no computation begins (60_exceptions.md R186, R187). -/
def State.failStart (s : State) : State :=
  ((s.raiseIf s.invalidDivisor .invDiv).raiseIf s.invalidBit .invBit).raiseIf s.capacityExceeded .cap

/-- A computation begins: INIT, and eng becomes RUN (41_commands.md R133, 42_engine.md R151). -/
def State.beginRun (s : State) : State := { s with W := s.initialBuffer, eng := .run }

/-- Validation at the accepting START, after the acceptance clears (60_exceptions.md R186). -/
def State.validateStart (s : State) : State := if s.rejectsStart then s.failStart else s.beginRun

/-- START: rejected while BUSY, else accepted and validated (41_commands.md R133). -/
def execStart (s : State) : Out := .next (s.unlessBusy fun t => t.acceptStart.validateStart)

/-- CLR_MSG: empty the message store, or rejected while BUSY (41_commands.md R134). -/
def execClrMsg (s : State) : Out := .next (s.unlessBusy State.emptyMsg)

/-- CLR_DIV: empty the divisor store, or rejected while BUSY (41_commands.md R135). -/
def execClrDiv (s : State) : Out := .next (s.unlessBusy State.emptyDiv)

/-- ACK: clear done and every error flag, in every state; RESULT, RLEN and STEPS stay (41_commands.md R136). -/
def execAck (s : State) : Out := .next s.clearEvents

/-- CMD_RSVD: ERR_CMD and no other effect, in every state (41_commands.md R137). -/
def execCmdRsvd (_word : Word) (s : State) : Out := .next (s.raise .cmd)

end Sys2Proof.Machine
end

