-- ==== Sys2Proof/Machine/HostAccess.lean ====
section
/-!
DEFINITION. The register transactions of 40_host_access.md, R100 to R124: one definition per (WE, IDX) pair but the write to
CMD. Every one is performed in every state (R195); a read changes no state of the block (20_memory.md R67).
-/

namespace Sys2Proof.Machine

/-! ### Reads -/

/-- RD_ID: the identification value, whatever the state (40_host_access.md R100). -/
def execRdId (s : State) : Out := .next (s.reply idValue)

/-- RD_CFG: MSG_CAP and DIV_CAP (40_host_access.md R102). -/
def execRdCfg (s : State) : Out := .next (s.reply s.cfgWord)

/-- RD_CTRL: IE in bit 0, the rest 0 (40_host_access.md R104). -/
def execRdCtrl (s : State) : Out := .next (s.reply (flagAt s.ie 0))

/-- RD_CMD: the write-only command register reads 0 (40_host_access.md R106). -/
def execRdCmd (s : State) : Out := .next (s.reply 0#32)

/-- RD_STATUS: STATUS; no flag is cleared by reading (40_host_access.md R107). -/
def execRdStatus (s : State) : Out := .next (s.reply s.status)

/-- RD_DIV_PUSH: the write-only push port reads 0; nothing is popped (40_host_access.md R109). -/
def execRdDivPush (s : State) : Out := .next (s.reply 0#32)

/-- RD_MSG_PUSH: the write-only push port reads 0; nothing is popped (40_host_access.md R111). -/
def execRdMsgPush (s : State) : Out := .next (s.reply 0#32)

/-- RD_DIV_LEN: div_len, zero-extended (40_host_access.md R113). -/
def execRdDivLen (s : State) : Out := .next (s.reply (BitVec.ofNat 32 s.divLen))

/-- RD_MSG_LEN: msg_len, zero-extended (40_host_access.md R115). -/
def execRdMsgLen (s : State) : Out := .next (s.reply (BitVec.ofNat 32 s.msgLen))

/-- RD_RESULT: the packed remainder (40_host_access.md R117). -/
def execRdResult (s : State) : Out := .next (s.reply s.result)

/-- RD_RLEN: the remainder width, zero-extended (40_host_access.md R119). -/
def execRdRlen (s : State) : Out := .next (s.reply (s.rlen.setWidth 32))

/-- RD_STEPS: the iteration count (40_host_access.md R121). -/
def execRdSteps (s : State) : Out := .next (s.reply s.steps)

/-- RD_RSVD: a reserved index reads 0 (40_host_access.md R123). -/
def execRdRsvd (_idx : Index) (s : State) : Out := .next (s.reply 0#32)

/-! ### Writes without effect: accepted in every state, no flag set (20_memory.md R67) -/

/-- WR_ID: no effect; the identification register is read-only (40_host_access.md R101). -/
def execWrId (_data : Word) (s : State) : Out := .next s

/-- WR_CFG: no effect; the capacities cannot be changed at run time (40_host_access.md R103). -/
def execWrCfg (_data : Word) (s : State) : Out := .next s

/-- WR_STATUS: no effect; no flag is cleared by writing STATUS (40_host_access.md R108). -/
def execWrStatus (_data : Word) (s : State) : Out := .next s

/-- WR_DIV_LEN: no effect; the length cannot be set by writing (40_host_access.md R114). -/
def execWrDivLen (_data : Word) (s : State) : Out := .next s

/-- WR_MSG_LEN: no effect; the length cannot be set by writing (40_host_access.md R116). -/
def execWrMsgLen (_data : Word) (s : State) : Out := .next s

/-- WR_RESULT: no effect; read-only (40_host_access.md R118). -/
def execWrResult (_data : Word) (s : State) : Out := .next s

/-- WR_RLEN: no effect; read-only (40_host_access.md R120). -/
def execWrRlen (_data : Word) (s : State) : Out := .next s

/-- WR_STEPS: no effect; the counter is reset only by START, CLEAR and reset (40_host_access.md R122). -/
def execWrSteps (_data : Word) (s : State) : Out := .next s

/-- WR_RSVD: no effect, and ERR_CMD is not set (40_host_access.md R124). -/
def execWrRsvd (_idx : Index) (_data : Word) (s : State) : Out := .next s

/-! ### Writes with effect -/

/-- WR_CTRL: IE becomes DATA[0], in every state; irq follows as a function of the state (40_host_access.md R105). -/
def execWrCtrl (data : Word) (s : State) : Out := .next { s with ie := ctrlEnable data }

/-- WR_DIV_PUSH: one symbol to the divisor store, or rejected while BUSY (40_host_access.md R110). -/
def execWrDivPush (data : Word) (s : State) : Out := .next (s.unlessBusy fun t => t.appendDiv data)

/-- WR_MSG_PUSH: one symbol to the message store, or rejected while BUSY (40_host_access.md R112). -/
def execWrMsgPush (data : Word) (s : State) : Out := .next (s.unlessBusy fun t => t.appendMsg data)

end Sys2Proof.Machine
end

