-- ==== Sys2Proof/Machine/Dispatch.lean ====
section
/-!
DEFINITION. One arm per instruction, each a direct call of its meaning.
-/

namespace Sys2Proof.Machine

def exec (i : Instr) (s : State) : Host.Outcome State Fault Refusal :=
  match i with
  | .rdId => Sys2Proof.Machine.execRdId s
  | .rdCfg => Sys2Proof.Machine.execRdCfg s
  | .rdCtrl => Sys2Proof.Machine.execRdCtrl s
  | .rdCmd => Sys2Proof.Machine.execRdCmd s
  | .rdStatus => Sys2Proof.Machine.execRdStatus s
  | .rdDivPush => Sys2Proof.Machine.execRdDivPush s
  | .rdMsgPush => Sys2Proof.Machine.execRdMsgPush s
  | .rdDivLen => Sys2Proof.Machine.execRdDivLen s
  | .rdMsgLen => Sys2Proof.Machine.execRdMsgLen s
  | .rdResult => Sys2Proof.Machine.execRdResult s
  | .rdRlen => Sys2Proof.Machine.execRdRlen s
  | .rdSteps => Sys2Proof.Machine.execRdSteps s
  | .wrId data => Sys2Proof.Machine.execWrId data s
  | .wrCfg data => Sys2Proof.Machine.execWrCfg data s
  | .wrCtrl data => Sys2Proof.Machine.execWrCtrl data s
  | .wrStatus data => Sys2Proof.Machine.execWrStatus data s
  | .wrDivPush data => Sys2Proof.Machine.execWrDivPush data s
  | .wrMsgPush data => Sys2Proof.Machine.execWrMsgPush data s
  | .wrDivLen data => Sys2Proof.Machine.execWrDivLen data s
  | .wrMsgLen data => Sys2Proof.Machine.execWrMsgLen data s
  | .wrResult data => Sys2Proof.Machine.execWrResult data s
  | .wrRlen data => Sys2Proof.Machine.execWrRlen data s
  | .wrSteps data => Sys2Proof.Machine.execWrSteps data s
  | .rdRsvd idx => Sys2Proof.Machine.execRdRsvd idx s
  | .wrRsvd idx data => Sys2Proof.Machine.execWrRsvd idx data s
  | .nop => Sys2Proof.Machine.execNop s
  | .clear => Sys2Proof.Machine.execClear s
  | .start => Sys2Proof.Machine.execStart s
  | .clrMsg => Sys2Proof.Machine.execClrMsg s
  | .clrDiv => Sys2Proof.Machine.execClrDiv s
  | .ack => Sys2Proof.Machine.execAck s
  | .cmdRsvd word => Sys2Proof.Machine.execCmdRsvd word s

end Sys2Proof.Machine
end

