-- ==== Sys2Proof/Machine/Agents.lean ====
section
/-!
DEFINITION. The three agents and their interleaving (00_scope.md R10, 20_memory.md R70): the next input is taken from the
state and performed as one atomic step (R66); with no input to come the engine runs on by itself (70_reset_and_hazards.md R231).
-/

namespace Sys2Proof.Machine

/-- The host transaction with key k, performed as one step (20_memory.md R66). -/
def performKey (k : Key) (s : State) : Out := exec (decodeKey k) s

/-- A byte-addressed access: the transaction it stands for, or refused where it is no whole aligned word (20_memory.md R64). -/
def performBus (a : BusAccess) (s : State) : Out :=
  match a.key with
  | some k => performKey k s
  | none => .refused .notAWordTransaction

/-- One item of the interleaving, performed on the state (20_memory.md R70). -/
def performInput (i : Input) (s : State) : Out :=
  match i with
  | .transaction k => performKey k s
  | .busAccess a => performBus a s
  | .transactionInReset _ => .refused .transactionDuringReset
  | .engineTurn => engineStep s
  | .reset => .next s.resetEvent

/-- One step: the next input, or, where none is to come, the engine's own step (70_reset_and_hazards.md R231, log entry 2). -/
def nextStep (s : State) : Out :=
  match s.inputs with
  | [] => engineStep s
  | i :: rest => performInput i { s with inputs := rest }

/-- The state with a transaction put before every input still to come. -/
def State.present (s : State) (k : Key) : State := { s with inputs := .transaction k :: s.inputs }

/-- The state with the table word w of nbits bits presented as the next transaction; a number that is no key presents none. -/
def State.presentWord (s : State) (nbits w : Nat) : State :=
  match keyOfNat (tableNat nbits w) with
  | some k => s.present k
  | none => s

end Sys2Proof.Machine
end

