-- ==== Sys2Proof/Machine/Step.lean ====
section
/-!
DEFINITION. The step of the machine, and where a step finds its next instruction.
-/

namespace Sys2Proof.Machine

/-- One step of one agent (20_memory.md R70). -/
def step (s : State) : Host.Outcome State Fault Refusal := nextStep s

/-- The instruction w of nbits bits stored where step finds its next instruction: as the next host transaction. CRCDIV fetches
nothing (20_memory.md R61); its host presents every transaction (log entry 4). -/
def State.withFetchWord (s : State) (nbits w : Nat) : State := s.presentWord nbits w

end Sys2Proof.Machine
end

