-- ==== Sys2Proof/Safety.lean ====
section
/-!
DEFINITION. The terms statements use: the well-formed states of 10_state.md R42, the bounds of R44, the polynomial reading of
sequences (00_scope.md R12) and the contract of 00_scope.md R5.
-/

namespace Sys2Proof.Machine

/-! ### Running -/

/-- The machine after k steps. -/
def runSteps (k : Nat) (s : State) : Out := Host.Core.run Sys2Proof.core k s

/-! ### Well-formed states (10_state.md R42) -/

/-- R42(a), with legal parameters (00_scope.md R6, R7). -/
abbrev State.StoresOk (s : State) : Prop :=
  s.cfg.Legal ∧ s.msgLen = s.M.length ∧ s.msgLen ≤ s.cfg.msgCap ∧ s.divLen = s.D.length ∧ s.divLen ≤ s.cfg.divCap

/-- R42(b). -/
abbrev State.IdleBufferOk (s : State) : Prop := s.eng = .idle → s.W = []

/-- The divisor, the input flags and the result state of a running computation: R42(c). -/
abbrev State.RunOk (s : State) : Prop :=
  s.eng = .run →
    (2 ≤ s.divLen ∧ s.D.head? = some true) ∧
    (s.msgBad = false ∧ s.divBad = false ∧ s.msgOvf = false ∧ s.divOvf = false) ∧
    s.done = false ∧ (s.errInvDiv = false ∧ s.errInvBit = false ∧ s.errCap = false) ∧ s.result = 0#32 ∧ s.rlen = 0#6

/-- R42(d). -/
abbrev State.DoneOk (s : State) : Prop :=
  s.done = true →
    s.eng = .idle ∧ (s.errInvDiv = false ∧ s.errInvBit = false ∧ s.errCap = false) ∧
    1 ≤ s.rlen.toNat ∧ s.rlen.toNat ≤ s.cfg.divCap - 1

/-- R42(e). -/
abbrev State.ResultOk (s : State) : Prop := (s.done = true → s.rlen ≠ 0#6) ∧ (s.rlen ≠ 0#6 → s.eng = .idle)

/-- A well-formed state: 10_state.md R42, (a) to (e). -/
abbrev State.Inv (s : State) : Prop := s.StoresOk ∧ s.IdleBufferOk ∧ s.RunOk ∧ s.DoneOk ∧ s.ResultOk

/-- The bits of RESULT at and above RLEN are 0; without a remainder RESULT is 0 (10_state.md R37). -/
abbrev State.ResultFits (s : State) : Prop := s.result.toNat < 2 ^ s.rlen.toNat

/-- The progress of a running computation and the counter bounds of 10_state.md R44: STEPS and the length of W together stay
within twice the initial length, one more after an iteration that dropped nothing (42_engine.md R161, R167). -/
abbrev State.Progress (s : State) : Prop :=
  s.steps.toNat ≤ 2 * s.cfg.msgCap ∧
  (s.eng = .run →
    1 ≤ s.W.length ∧ s.W.length ≤ s.msgLen + s.width ∧ s.steps.toNat ≤ 2 * s.msgLen ∧
    s.steps.toNat + 2 * s.W.length ≤ 2 * (s.msgLen + s.width) + (s.W.head? == some true).toNat)

/-! ### Polynomials over GF(2) (00_scope.md R12, R13) -/

/-- poly(S): element i of S is the coefficient of x^(|S|-1-i) (00_scope.md R12). -/
noncomputable def poly (S : List Bool) : Polynomial (ZMod 2) :=
  ∑ i ∈ Finset.range S.length, if S.getD i false then Polynomial.X ^ (S.length - 1 - i) else 0

/-- The contract: the remainder of poly(M)·x^r divided by poly(D), with r = |D| - 1 (00_scope.md R5). -/
noncomputable def crcRemainder (M D : List Bool) : Polynomial (ZMod 2) :=
  (poly M * Polynomial.X ^ (D.length - 1)) %ₘ poly D

/-- The value invariant of a running computation: poly(W) ≡ poly(M)·x^r modulo poly(D) (42_engine.md R162). -/
def State.ValueOk (s : State) : Prop :=
  s.eng = .run → poly s.D ∣ poly s.W - poly s.M * Polynomial.X ^ s.width

/-- The remainder sequence of width r that a RESULT word holds: element i at bit r-1-i (10_state.md R37). -/
def remainderBits (r : Nat) (v : Word) : List Bool := (List.range r).map fun i => v.getLsbD (r - 1 - i)

/-! ### Encodings -/

/-- Every key that the row (pattern, mask) matches decodes to the instruction i of the key's DATA (30_encoding.md R80). -/
def KeysDecodeTo (pattern mask : Key) (i : Word → Instr) : Prop :=
  ∀ k : Key, k &&& mask = pattern → decodeKey k = i (keyData k)

/-! ### Inputs -/

/-- The input is a host transaction, presented whole or through a byte-addressed adapter, of instruction j. -/
def Input.isTransaction (i : Input) (j : Instr) : Prop :=
  match i with
  | .transaction k => decodeKey k = j
  | .busAccess a => ∃ k, a.key = some k ∧ decodeKey k = j
  | .transactionInReset _ => False
  | .engineTurn => False
  | .reset => False

/-- The next input is a host transaction of an instruction that P holds of. -/
def State.nextTransaction (s : State) (P : Instr → Prop) : Prop :=
  ∃ i rest j, s.inputs = i :: rest ∧ i.isTransaction j ∧ P j

/-- The next input is the reset. -/
def State.nextReset (s : State) : Prop := ∃ rest, s.inputs = .reset :: rest

/-- An engine turn, or a host transaction other than CLEAR and START: no input of this kind aborts or begins a computation. -/
def Input.quiet (i : Input) : Bool :=
  match i with
  | .transaction k => decodeKey k != .clear && decodeKey k != .start
  | .busAccess _ => false
  | .transactionInReset _ => false
  | .engineTurn => true
  | .reset => false

/-! ### Computations -/

/-- A divisor and a message that START accepts on a block with the parameters c (60_exceptions.md R181, R183). -/
abbrev ValidInputs (c : Config) (m d : List Bool) : Prop :=
  c.Legal ∧ m.length ≤ c.msgCap ∧ 2 ≤ d.length ∧ d.length ≤ c.divCap ∧ d.head? = some true

/-- The state after reset with m and d pushed and a START presented (70_reset_and_hazards.md R213). -/
def State.loaded (c : Config) (m d : List Bool) : State :=
  { State.resetWith c with
    M := m, msgLen := m.length, D := d, divLen := d.length, inputs := [.transaction (commandKey 2#32)] }

/-- The symbol word of a bit (30_encoding.md R86). -/
def symbolWord (b : Bool) : Word := if b then 1#32 else 0#32

/-- Steps 2 to 4 of the calling protocol: the divisor pushed, then the message, first element first, then START
(70_reset_and_hazards.md R213, 20_memory.md R65). -/
def callScript (m d : List Bool) : List Input :=
  d.map (fun b => .transaction (writeKey 5#4 (symbolWord b))) ++
    (m.map (fun b => .transaction (writeKey 6#4 (symbolWord b))) ++ [.transaction (commandKey 2#32)])

end Sys2Proof.Machine
end

