-- ==== Sys2Proof/Certificates/Slice0/Obligations.lean ====
section
/-!
DEFINITION. The statements for the provers. Each docstring names the rule of spec/ that the statement formalises.
-/

open Sys2Proof Sys2Proof.Machine

/-! ### Encoding (30_encoding.md) -/

/-- R80 to R85: decoding the key of a well-formed instruction gives the instruction, every operand at every value. -/
def Obligations.DecodeOfEncodeIsTheInstruction : Prop :=
  ∀ i : Instr, i.wf = true → decodeKey (encode i) = i

/-- R80, R82, R85: every key decodes to a well-formed instruction, whose key is the key itself; a read's DATA is not part of it. -/
def Obligations.EncodeOfDecodeIsTheKey : Prop :=
  ∀ k : Key, (decodeKey k).wf = true ∧ encode (decodeKey k) = if keyWe k then k else readKey (keyIndex k)

/-- R85: the rows other than CMD_RSVD are disjoint; CMD_RSVD's row matches the writes to CMD; the first row that a key matches, in
the order of R85, exists and names the instruction decoded. -/
def Obligations.FirstFittingRowNamesTheInstruction : Prop :=
  ∀ k : Key,
    exactRows.Pairwise (fun r q => ¬(r.fits k = true ∧ q.fits k = true)) ∧
    (reservedCommandRow.fits k = true ↔ keyWe k = true ∧ keyIndex k = 3#4) ∧
    (∀ r ∈ exactRows, r.fits k = true → reservedCommandRow.fits k = true → r.mask = 0x1FFFFFFFFF#37) ∧
    (selectRow k).map (fun r => r.mnemonic) = some (decodeKey k).mnemonic

/-- R80, R83, R84: words written out from the encoding decode to their instructions, and a number beyond 37 bits is no key. -/
def Obligations.WrittenOutWordsDecode : Prop :=
  decodeTableWord 40 0x0400000000 = some .rdStatus ∧
  decodeTableWord 40 0x0D00000000 = some (.rdRsvd 13#4) ∧
  decodeTableWord 40 0x1200000001 = some (.wrCtrl 1#32) ∧
  decodeTableWord 40 0x1580000001 = some (.wrDivPush 0x80000001#32) ∧
  decodeTableWord 40 0x1600000002 = some (.wrMsgPush 2#32) ∧
  decodeTableWord 40 0x1300000002 = some .start ∧
  decodeTableWord 40 0x1300000005 = some .ack ∧
  decodeTableWord 40 0x1380000002 = some (.cmdRsvd 0x80000002#32) ∧
  decodeTableWord 40 0x1F00000001 = some (.wrRsvd 15#4 1#32) ∧
  decodeTableWord 40 0x2000000000 = none

/-! ### The step and the agents (20_memory.md, 70_reset_and_hazards.md) -/

/-- R66, R70: a step whose next input is a transaction is exec of the instruction its key decodes to, on the state with that input
taken; and so for a table word presented by withFetchWord. The form of the inputs is the model's (log entries 2 and 4). -/
def Obligations.StepRunsTheDecodedTransaction : Prop :=
  (∀ (s : State) (k : Key) (rest : List Input), s.inputs = .transaction k :: rest →
    step s = exec (decodeKey k) { s with inputs := rest }) ∧
  (∀ (s : State) (nbits w : Nat) (i : Instr), decodeTableWord nbits w = some i →
    step (s.withFetchWord nbits w) = exec i s)

/-- R70, R231 and log entry 2: an engine turn is an engine step, and so is a step with no input to come. -/
def Obligations.EngineTurnIsAnEngineStep : Prop :=
  (∀ (s : State) (rest : List Input), s.inputs = .engineTurn :: rest → step s = engineStep { s with inputs := rest }) ∧
  (∀ s : State, s.inputs = [] → step s = engineStep s)

/-- R43, with R210: the reset input sets every state element to its reset value, whatever the state, so irq is 0; a transaction
issued while reset is held is refused (R210). The parameters, the inputs to come and the host's record are no elements of the
block (log entries 1 to 3). -/
def Obligations.ResetSetsEveryElement : Prop :=
  (∀ (s : State) (rest : List Input), s.inputs = .reset :: rest →
    ∃ t, step s = .next t ∧
      t = { cfg := s.cfg, M := [], msgLen := 0, msgBad := false, msgOvf := false, D := [], divLen := 0, divBad := false,
            divOvf := false, W := [], eng := .idle, done := false, errInvDiv := false, errInvBit := false, errCap := false,
            errBusy := false, errCmd := false, result := 0#32, rlen := 0#6, steps := 0#32, ie := false,
            inputs := rest, replies := s.replies } ∧
      t.irq = false) ∧
  (∀ (s : State) (k : Key) (rest : List Input), s.inputs = .transactionInReset k :: rest →
    step s = .refused .transactionDuringReset)

/-- R64: register IDX stands at byte offset 4·IDX; a whole aligned word access is that register's transaction, and any other
byte-addressed access is refused. -/
def Obligations.ByteAccessIsItsWordOrRefused : Prop :=
  (∀ (s : State) (we : Bool) (idx : Index) (data : Word) (rest : List Input),
    s.inputs = .busAccess ⟨we, 4 * idx.toNat, 4, data⟩ :: rest →
    step s = exec (decodeKey (if we then writeKey idx data else readKey idx)) { s with inputs := rest }) ∧
  (∀ (s : State) (a : BusAccess) (rest : List Input), s.inputs = .busAccess a :: rest →
    (a.size ≠ 4 ∨ a.offset % 4 ≠ 0 ∨ 64 ≤ a.offset) → step s = .refused .notAWordTransaction)

/-- R195, 40_host_access.md: every transaction is performed in every state, and none faults or is refused; none touches the
parameters or the inputs to come. -/
def Obligations.EveryTransactionAnswersANextState : Prop :=
  ∀ (i : Instr) (s : State), ∃ t, exec i s = .next t ∧ t.cfg = s.cfg ∧ t.inputs = s.inputs ∧ s.replies <+: t.replies

/-! ### Register transactions (40_host_access.md). A read's value is stated as the last entry of replies, the model's record of
what the host has read (log entry 3). -/

/-- R100, R106, R109, R111, R123: the reads of ID, of the write-only registers and of the reserved indices return their constant,
whatever the state, and change nothing else. -/
def Obligations.ConstantReadsReturnTheirValue : Prop :=
  (KeysDecodeTo 0x0000000000#37 0x1F00000000#37 (fun _ => .rdId) ∧
    ∀ s : State, exec .rdId s = .next { s with replies := s.replies ++ [0x43524344#32] }) ∧
  (KeysDecodeTo 0x0300000000#37 0x1F00000000#37 (fun _ => .rdCmd) ∧
    ∀ s : State, exec .rdCmd s = .next { s with replies := s.replies ++ [0#32] }) ∧
  (KeysDecodeTo 0x0500000000#37 0x1F00000000#37 (fun _ => .rdDivPush) ∧
    ∀ s : State, exec .rdDivPush s = .next { s with replies := s.replies ++ [0#32] }) ∧
  (KeysDecodeTo 0x0600000000#37 0x1F00000000#37 (fun _ => .rdMsgPush) ∧
    ∀ s : State, exec .rdMsgPush s = .next { s with replies := s.replies ++ [0#32] }) ∧
  ((∀ k : Key, k &&& 0x1C00000000#37 = 0x0C00000000#37 → decodeKey k = .rdRsvd (keyIndex k)) ∧
    ∀ (idx : Index) (s : State), exec (.rdRsvd idx) s = .next { s with replies := s.replies ++ [0#32] })

/-- R102, R104, R113, R115, R117, R119, R121: the reads of the other registers but STATUS return the register's fields,
zero-extended, and change nothing else; with legal parameters CFG is MSG_CAP in bits 31 to 16 and DIV_CAP below (R29). -/
def Obligations.RegisterReadsReturnTheirFields : Prop :=
  (KeysDecodeTo 0x0100000000#37 0x1F00000000#37 (fun _ => .rdCfg) ∧
    ∀ s : State, ∃ v : Word, exec .rdCfg s = .next { s with replies := s.replies ++ [v] } ∧
      (s.cfg.Legal → v.toNat = 65536 * s.cfg.msgCap + s.cfg.divCap)) ∧
  (KeysDecodeTo 0x0200000000#37 0x1F00000000#37 (fun _ => .rdCtrl) ∧
    ∀ s : State, exec .rdCtrl s = .next { s with replies := s.replies ++ [if s.ie then 1#32 else 0#32] }) ∧
  (KeysDecodeTo 0x0700000000#37 0x1F00000000#37 (fun _ => .rdDivLen) ∧
    ∀ s : State, exec .rdDivLen s = .next { s with replies := s.replies ++ [BitVec.ofNat 32 s.divLen] }) ∧
  (KeysDecodeTo 0x0800000000#37 0x1F00000000#37 (fun _ => .rdMsgLen) ∧
    ∀ s : State, exec .rdMsgLen s = .next { s with replies := s.replies ++ [BitVec.ofNat 32 s.msgLen] }) ∧
  (KeysDecodeTo 0x0900000000#37 0x1F00000000#37 (fun _ => .rdResult) ∧
    ∀ s : State, exec .rdResult s = .next { s with replies := s.replies ++ [s.result] }) ∧
  (KeysDecodeTo 0x0A00000000#37 0x1F00000000#37 (fun _ => .rdRlen) ∧
    ∀ s : State, exec .rdRlen s = .next { s with replies := s.replies ++ [BitVec.ofNat 32 s.rlen.toNat] }) ∧
  (KeysDecodeTo 0x0B00000000#37 0x1F00000000#37 (fun _ => .rdSteps) ∧
    ∀ s : State, exec .rdSteps s = .next { s with replies := s.replies ++ [s.steps] })

/-- R107 with the table of R32: a read of STATUS returns each flag at its bit, IRQ computed, and 0 at bits 31 to 12; nothing else
changes, no flag is cleared. -/
def Obligations.StatusReadShowsEveryFlag : Prop :=
  KeysDecodeTo 0x0400000000#37 0x1F00000000#37 (fun _ => .rdStatus) ∧
  ∀ s : State, ∃ v : Word, exec .rdStatus s = .next { s with replies := s.replies ++ [v] } ∧
    v.getLsbD 0 = decide (s.eng = .run) ∧ v.getLsbD 1 = s.done ∧ v.getLsbD 2 = s.errInvDiv ∧ v.getLsbD 3 = s.errInvBit ∧
    v.getLsbD 4 = s.errCap ∧ v.getLsbD 5 = s.errBusy ∧ v.getLsbD 6 = s.errCmd ∧
    v.getLsbD 7 = (s.ie && (s.done || s.errInvDiv || s.errInvBit || s.errCap || s.errBusy || s.errCmd)) ∧
    v.getLsbD 8 = s.msgBad ∧ v.getLsbD 9 = s.divBad ∧ v.getLsbD 10 = s.msgOvf ∧ v.getLsbD 11 = s.divOvf ∧
    ∀ i, 12 ≤ i → v.getLsbD i = false

/-- R67: every read (WE = 0), of any index, returns a word and changes no state of the block. -/
def Obligations.ReadsHaveNoSideEffect : Prop :=
  ∀ (k : Key) (s : State), keyWe k = false →
    ∃ v : Word, exec (decodeKey k) s = .next { s with replies := s.replies ++ [v] }

/-- R101, R103, R108, R114, R116, R118, R120, R122, R124 and R131: the writes to read-only registers and reserved indices, and NOP,
have no effect in any state, whatever their DATA. -/
def Obligations.NoEffectWritesChangeNothing : Prop :=
  (KeysDecodeTo 0x1000000000#37 0x1F00000000#37 .wrId ∧ ∀ data (s : State), exec (.wrId data) s = .next s) ∧
  (KeysDecodeTo 0x1100000000#37 0x1F00000000#37 .wrCfg ∧ ∀ data (s : State), exec (.wrCfg data) s = .next s) ∧
  (KeysDecodeTo 0x1400000000#37 0x1F00000000#37 .wrStatus ∧ ∀ data (s : State), exec (.wrStatus data) s = .next s) ∧
  (KeysDecodeTo 0x1700000000#37 0x1F00000000#37 .wrDivLen ∧ ∀ data (s : State), exec (.wrDivLen data) s = .next s) ∧
  (KeysDecodeTo 0x1800000000#37 0x1F00000000#37 .wrMsgLen ∧ ∀ data (s : State), exec (.wrMsgLen data) s = .next s) ∧
  (KeysDecodeTo 0x1900000000#37 0x1F00000000#37 .wrResult ∧ ∀ data (s : State), exec (.wrResult data) s = .next s) ∧
  (KeysDecodeTo 0x1A00000000#37 0x1F00000000#37 .wrRlen ∧ ∀ data (s : State), exec (.wrRlen data) s = .next s) ∧
  (KeysDecodeTo 0x1B00000000#37 0x1F00000000#37 .wrSteps ∧ ∀ data (s : State), exec (.wrSteps data) s = .next s) ∧
  ((∀ k : Key, k &&& 0x1C00000000#37 = 0x1C00000000#37 → decodeKey k = .wrRsvd (keyIndex k) (keyData k)) ∧
    ∀ idx data (s : State), exec (.wrRsvd idx data) s = .next s) ∧
  (KeysDecodeTo 0x1300000000#37 0x1FFFFFFFFF#37 (fun _ => .nop) ∧ ∀ s : State, exec .nop s = .next s)

/-- R105, R87: a write to CTRL makes IE the bit DATA[0], in every state, and changes nothing else; irq follows at once, and no
flag is cleared. -/
def Obligations.CtrlWriteSetsTheEnableOnly : Prop :=
  KeysDecodeTo 0x1200000000#37 0x1F00000000#37 .wrCtrl ∧
  ∀ (data : Word) (s : State), ∃ t, exec (.wrCtrl data) s = .next t ∧ t = { s with ie := data.getLsbD 0 } ∧
    t.irq = (data.getLsbD 0 && (s.done || s.errInvDiv || s.errInvBit || s.errCap || s.errBusy || s.errCmd)) ∧
    t.status.getLsbD 7 = t.irq

/-- R110, R86: a push to the divisor while IDLE sets div_bad for a symbol other than 0 and 1; it appends the symbol's bit, or, with
the store full, sets div_ovf and drops it. Nothing else changes. -/
def Obligations.DivPushAppendsOrFlags : Prop :=
  KeysDecodeTo 0x1500000000#37 0x1F00000000#37 .wrDivPush ∧
  ∀ (data : Word) (s : State), s.eng = .idle →
    exec (.wrDivPush data) s = .next
      { s with
        divBad := s.divBad || !(data == 0#32 || data == 1#32)
        divOvf := s.divOvf || decide (s.divLen = s.cfg.divCap)
        D := if s.divLen = s.cfg.divCap then s.D else s.D ++ [data == 1#32]
        divLen := if s.divLen = s.cfg.divCap then s.divLen else s.divLen + 1 }

/-- R112, R86: a push to the message while IDLE, as for the divisor. -/
def Obligations.MsgPushAppendsOrFlags : Prop :=
  KeysDecodeTo 0x1600000000#37 0x1F00000000#37 .wrMsgPush ∧
  ∀ (data : Word) (s : State), s.eng = .idle →
    exec (.wrMsgPush data) s = .next
      { s with
        msgBad := s.msgBad || !(data == 0#32 || data == 1#32)
        msgOvf := s.msgOvf || decide (s.msgLen = s.cfg.msgCap)
        M := if s.msgLen = s.cfg.msgCap then s.M else s.M ++ [data == 1#32]
        msgLen := if s.msgLen = s.cfg.msgCap then s.msgLen else s.msgLen + 1 }

/-! ### Commands (41_commands.md) and errors (60_exceptions.md) -/

/-- R184: while eng = RUN the pushes, START, CLR_MSG and CLR_DIV set ERR_BUSY, STATUS bit 5, and have no other effect. -/
def Obligations.BusyWritesAreRejected : Prop :=
  ∀ (i : Instr) (s : State), s.eng = .run →
    ((∃ data, i = .wrDivPush data) ∨ (∃ data, i = .wrMsgPush data) ∨ i = .start ∨ i = .clrMsg ∨ i = .clrDiv) →
    ∃ t, exec i s = .next t ∧ t = { s with errBusy := true } ∧ t.status.getLsbD 5 = true

/-- R132: CLEAR empties the block in every state and keeps ie; irq falls; whether the engine has taken its next step before it or
not, the state after CLEAR is the same. -/
def Obligations.ClearEmptiesTheBlock : Prop :=
  KeysDecodeTo 0x1300000001#37 0x1FFFFFFFFF#37 (fun _ => .clear) ∧
  ∀ s : State, ∃ t, exec .clear s = .next t ∧
    t = { cfg := s.cfg, M := [], msgLen := 0, msgBad := false, msgOvf := false, D := [], divLen := 0, divBad := false,
          divOvf := false, W := [], eng := .idle, done := false, errInvDiv := false, errInvBit := false, errCap := false,
          errBusy := false, errCmd := false, result := 0#32, rlen := 0#6, steps := 0#32, ie := s.ie,
          inputs := s.inputs, replies := s.replies } ∧
    t.irq = false ∧ t.status = 0#32 ∧ ∀ u, engineStep s = .next u → exec .clear u = .next t

/-- R211: the state after reset equals the state after CLEAR, except that CLEAR keeps ie and reset sets ie = 0. -/
def Obligations.ResetIsClearWithTheEnableCleared : Prop :=
  ∀ s : State, ∃ t, exec .clear s = .next t ∧ t.ie = s.ie ∧ performInput .reset s = .next { t with ie := false }

/-- R136: ACK clears done and every error flag, in every state, and nothing else; irq falls; during a run only err_busy and err_cmd
were there to clear; bad inputs stay bad. -/
def Obligations.AckClearsDoneAndErrors : Prop :=
  KeysDecodeTo 0x1300000005#37 0x1FFFFFFFFF#37 (fun _ => .ack) ∧
  ∀ s : State, ∃ t, exec .ack s = .next t ∧
    t = { s with done := false, errInvDiv := false, errInvBit := false, errCap := false, errBusy := false, errCmd := false } ∧
    t.irq = false ∧ (s.Inv → s.eng = .run → t = { s with errBusy := false, errCmd := false }) ∧
    t.rejectsStart = s.rejectsStart

/-- R134, R135: CLR_MSG and CLR_DIV empty their own store with its two input flags while IDLE and change nothing else; while RUN
they are rejected with ERR_BUSY. -/
def Obligations.StoreClearsEmptyTheirStore : Prop :=
  (KeysDecodeTo 0x1300000003#37 0x1FFFFFFFFF#37 (fun _ => .clrMsg) ∧
    ∀ s : State, (s.eng = .idle → exec .clrMsg s = .next { s with M := [], msgLen := 0, msgBad := false, msgOvf := false }) ∧
      (s.eng = .run → exec .clrMsg s = .next { s with errBusy := true })) ∧
  (KeysDecodeTo 0x1300000004#37 0x1FFFFFFFFF#37 (fun _ => .clrDiv) ∧
    ∀ s : State, (s.eng = .idle → exec .clrDiv s = .next { s with D := [], divLen := 0, divBad := false, divOvf := false }) ∧
      (s.eng = .run → exec .clrDiv s = .next { s with errBusy := true }))

/-- R137: a command word other than the six defined ones sets ERR_CMD, STATUS bit 6, in every state and has no other effect; with
IE = 1 irq rises. -/
def Obligations.ReservedCommandSetsErrCmd : Prop :=
  (∀ k : Key, k &&& 0x1F00000000#37 = 0x1300000000#37 → 6 ≤ (keyData k).toNat → decodeKey k = .cmdRsvd (keyData k)) ∧
  ∀ (word : Word) (s : State), ∃ t, exec (.cmdRsvd word) s = .next t ∧ t = { s with errCmd := true } ∧
    t.status.getLsbD 6 = true ∧ (s.ie = true → t.irq = true)

/-- R133, R151: a START while IDLE with a divisor of length 2 or more and leading bit 1, and no input flag set, clears the result
state and every event flag, forms W as the message followed by div_len - 1 zeros and makes eng RUN. Nothing else changes. -/
def Obligations.ValidStartBeginsARun : Prop :=
  KeysDecodeTo 0x1300000002#37 0x1FFFFFFFFF#37 (fun _ => .start) ∧
  ∀ s : State, s.eng = .idle → 2 ≤ s.divLen → s.D.head? = some true →
    s.msgBad = false → s.divBad = false → s.msgOvf = false → s.divOvf = false →
    exec .start s = .next
      { s with
        done := false, errInvDiv := false, errInvBit := false, errCap := false, errBusy := false, errCmd := false
        result := 0#32, rlen := 0#6, steps := 0#32
        W := s.M ++ List.replicate (s.divLen - 1) false
        eng := .run }

/-- R186, R187: a START while IDLE for which some validation condition holds (R181, R182, R183) sets the flag of every condition
that holds, leaves the result state 0 and begins no computation; the stores and the input flags stay. -/
def Obligations.InvalidStartReportsEveryCondition : Prop :=
  ∀ (s : State) (invDiv invBit cap : Bool), s.eng = .idle →
    (invDiv = true ↔ s.divLen < 2 ∨ s.D.head? ≠ some true) →
    (invBit = true ↔ s.msgBad = true ∨ s.divBad = true) →
    (cap = true ↔ s.msgOvf = true ∨ s.divOvf = true) →
    (invDiv || invBit || cap) = true →
    exec .start s = .next
      { s with
        done := false, errInvDiv := invDiv, errInvBit := invBit, errCap := cap, errBusy := false, errCmd := false
        result := 0#32, rlen := 0#6, steps := 0#32 }

/-- R181 to R185, "Raised by": in a step of any agent ERR_INV_DIV, ERR_INV_BIT and ERR_CAP rise only at a START while IDLE whose
inputs meet the condition, ERR_BUSY only at a rejected write while RUN, ERR_CMD only at a reserved command word. -/
def Obligations.ErrorFlagsRiseOnlyAtTheirCause : Prop :=
  ∀ s t : State, step s = .next t →
    (s.errInvDiv = false → t.errInvDiv = true →
      s.nextTransaction (fun j => j = .start) ∧ s.eng = .idle ∧ (s.divLen < 2 ∨ s.D.head? ≠ some true)) ∧
    (s.errInvBit = false → t.errInvBit = true →
      s.nextTransaction (fun j => j = .start) ∧ s.eng = .idle ∧ (s.msgBad = true ∨ s.divBad = true)) ∧
    (s.errCap = false → t.errCap = true →
      s.nextTransaction (fun j => j = .start) ∧ s.eng = .idle ∧ (s.msgOvf = true ∨ s.divOvf = true)) ∧
    (s.errBusy = false → t.errBusy = true →
      s.eng = .run ∧ s.nextTransaction (fun j =>
        (∃ data, j = .wrDivPush data) ∨ (∃ data, j = .wrMsgPush data) ∨ j = .start ∨ j = .clrMsg ∨ j = .clrDiv)) ∧
    (s.errCmd = false → t.errCmd = true → s.nextTransaction (fun j => ∃ word, j = .cmdRsvd word))

/-- R190: irq = ie and (done or any error flag), in every state; STATUS bit 7 reads the same; after reset it is 0. -/
def Obligations.IrqIsALevelOfTheFlags : Prop :=
  (∀ s : State, (s.irq = true ↔ s.ie = true ∧ (s.done = true ∨ s.errInvDiv = true ∨ s.errInvBit = true ∨ s.errCap = true ∨
      s.errBusy = true ∨ s.errCmd = true)) ∧ s.status.getLsbD 7 = s.irq) ∧
  State.reset.irq = false

/-! ### The engine (42_engine.md) -/

/-- R150: the engine has no step when eng = IDLE: its turn changes nothing. -/
def Obligations.IdleEngineHasNoStep : Prop :=
  ∀ s : State, s.eng = .idle → engineStep s = .next s

/-- R155, R156, R157, in the ITERATE of R154: the first n elements of W are XORed with D and written back, the others stay; k counts
the zeros at the front among the first r = n - 1 positions; the first k elements are dropped and at least one is left; STEPS grows by 1. -/
def Obligations.IterateXorsScansAndDrops : Prop :=
  ∀ s : State, s.eng = .run → 1 ≤ s.divLen → s.divLen = s.D.length → s.divLen ≤ 33 → s.divLen ≤ s.W.length →
    ∃ (w : List Bool) (k : Nat),
      w.length = s.W.length ∧
      (∀ i, i < s.divLen → w[i]? = some (s.W.getD i false ^^ s.D.getD i false)) ∧
      (∀ i, s.divLen ≤ i → w[i]? = s.W[i]?) ∧
      k ≤ s.divLen - 1 ∧ (∀ i, i < k → w[i]? = some false) ∧ (k < s.divLen - 1 → w[k]? = some true) ∧
      1 ≤ (w.drop k).length ∧
      engineStep s = .next { s with W := w.drop k, steps := s.steps + 1 }

/-- R152, R158: with |W| = r the engine finishes: RESULT holds element i of W at bit r-1-i and 0 above, as a number the sum of
W[i]·2^(r-1-i); RLEN is r, done is set, eng is IDLE and W is empty; STEPS and everything else stay; with IE = 1 irq rises. -/
def Obligations.FinishPacksTheRemainder : Prop :=
  ∀ s : State, s.eng = .run → 1 ≤ s.divLen → s.divLen = s.D.length → s.divLen ≤ 33 → s.W.length = s.divLen - 1 →
    ∃ (v : Word) (l : BitVec 6) (t : State),
      (∀ i, i < s.W.length → v.getLsbD (s.W.length - 1 - i) = s.W.getD i false) ∧
      (∀ i, s.W.length ≤ i → v.getLsbD i = false) ∧
      v.toNat = ∑ i ∈ Finset.range s.W.length, (s.W.getD i false).toNat * 2 ^ (s.W.length - 1 - i) ∧
      l.toNat = s.divLen - 1 ∧
      engineStep s = .next t ∧ t = { s with result := v, rlen := l, done := true, eng := .idle, W := [] } ∧
      t.irq = s.ie

/-- R153: with |W| < r the engine does what it would do with W left-padded with zeros to r bits: it finishes. -/
def Obligations.ShortBufferIsPaddedAndFinishes : Prop :=
  ∀ s : State, s.eng = .run → 1 ≤ s.divLen → s.divLen = s.D.length → s.divLen ≤ 33 → s.W.length < s.divLen - 1 →
    ∃ t, engineStep s = .next t ∧ t.eng = .idle ∧ t.done = true ∧
      engineStep { s with W := List.replicate (s.divLen - 1 - s.W.length) false ++ s.W } = .next t

/-- R194: in a well-formed state every engine step answers a next state and sets no error flag; a computation ends only by a finish
(|W| ≤ r), CLEAR or reset. -/
def Obligations.RunRaisesNoErrorAndEndsByItsEvents : Prop :=
  (∀ s : State, s.Inv → s.eng = .run →
    ∃ t, engineStep s = .next t ∧ t.errInvDiv = s.errInvDiv ∧ t.errInvBit = s.errInvBit ∧ t.errCap = s.errCap ∧
      t.errBusy = s.errBusy ∧ t.errCmd = s.errCmd ∧ (t.eng = .idle ↔ s.W.length ≤ s.divLen - 1)) ∧
  (∀ s t : State, s.eng = .run → step s = .next t → t.eng = .idle →
    (t.done = true ∧ s.W.length ≤ s.divLen - 1 ∧ (s.inputs = [] ∨ ∃ rest, s.inputs = .engineTurn :: rest)) ∨
    s.nextTransaction (fun j => j = .clear) ∨ s.nextReset)

/-- R150, "No engine step faults on any reachable state": no step from a well-formed state faults, and a step is refused only for a
byte-addressed access that is no whole word (R64) or a transaction while reset is held (R210). -/
def Obligations.NoStepFaultsInAWellFormedState : Prop :=
  ∀ s : State, s.Inv →
    (∀ f, step s ≠ .fault f) ∧
    (∀ r, step s = .refused r →
      (∃ a rest, s.inputs = .busAccess a :: rest ∧ a.key = none) ∨ (∃ k rest, s.inputs = .transactionInReset k :: rest))

/-- R160: every bit that the scan counts is 0; dropping these bits, and padding with leading zeros, leave the polynomial
unchanged. -/
def Obligations.DropAndPadKeepThePolynomial : Prop :=
  (∀ (r : Nat) (w : List Bool), ∀ b ∈ w.take (leadingZeroScan r w), b = false) ∧
  (∀ (r : Nat) (w : List Bool), poly (w.drop (leadingZeroScan r w)) = poly w) ∧
  (∀ (k : Nat) (w : List Bool), poly (List.replicate k false ++ w) = poly w)

/-- R161: an ITERATE on a window that starts with 1 shortens W; on one that starts with 0 it keeps the length and leaves a leading
1, and the next engine step restores the earlier window and shortens W. -/
def Obligations.ZeroDropIsFollowedByADrop : Prop :=
  ∀ s : State, s.Inv → s.eng = .run → s.divLen ≤ s.W.length →
    ∃ t, engineStep s = .next t ∧ t.steps = s.steps + 1 ∧
      (s.W.head? = some true → t.W.length < s.W.length) ∧
      (s.W.head? = some false →
        t.W.length = s.W.length ∧ t.W.head? = some true ∧ windowXor t.divLen t.D t.W = s.W ∧
        ∃ u, engineStep t = .next u ∧ u.steps = t.steps + 1 ∧ u.W.length < t.W.length)

/-- R171: where the XOR leaves the first r window bits zero, exactly r bits are dropped and the window's last bit comes first, also
when it is 0; if it is 0 and |W| ≥ n still, the next ITERATE drops nothing. -/
def Obligations.AllZeroWindowDropsExactlyR : Prop :=
  ∀ (s : State) (b : Bool) (v : List Bool), s.Inv → s.eng = .run → s.W = s.D.dropLast ++ b :: v →
    ∃ t, engineStep s = .next t ∧ t.W = (b ^^ s.D.getLastD false) :: v ∧
      (b = s.D.getLastD false → s.divLen ≤ t.W.length →
        ∃ u, engineStep t = .next u ∧ u.W.length = t.W.length)

/-- R169: with an empty message START forms W = zeros(r) and the first engine step finishes: RESULT is 0, RLEN is r, STEPS is 0. -/
def Obligations.EmptyMessageFinishesAtOnce : Prop :=
  ∀ (c : Config) (d : List Bool), ValidInputs c [] d →
    ∃ u t, step (State.loaded c [] d) = .next u ∧ u.eng = .run ∧ u.W = List.replicate (d.length - 1) false ∧
      step u = .next t ∧ t.eng = .idle ∧ t.done = true ∧ t.result = 0#32 ∧ t.rlen.toNat = d.length - 1 ∧ t.steps = 0#32

/-! ### Invariants -/

/-- R42, R43: for every legal choice of the parameters the state after reset is well formed and within the bounds. That the fixed
reset state has the reference parameters 33 and 1024 is the model's choice (log entry 1). -/
def Obligations.ResetIsWellFormed : Prop :=
  (∀ c : Config, c.Legal →
    (State.resetWith c).Inv ∧ (State.resetWith c).Progress ∧ (State.resetWith c).ResultFits ∧ (State.resetWith c).ValueOk) ∧
  State.reset = State.resetWith ⟨33, 1024⟩ ∧ State.reset.Inv

/-- R42: every step keeps the well-formed states, whatever input comes. -/
def Obligations.EveryStepKeepsWellFormed : Prop :=
  ∀ s t : State, s.Inv → step s = .next t → t.Inv

/-- R44, R24, R8, R167: every step keeps STEPS within 2·MSG_CAP and, during a run, within 2·msg_len; a running W is never empty and
never longer than WCAP. -/
def Obligations.EveryStepKeepsTheCounterBounds : Prop :=
  ∀ s t : State, s.Inv → s.Progress → step s = .next t → t.Progress ∧ (t.eng = .run → t.W.length ≤ t.cfg.wcap)

/-- R37: every step keeps the bits of RESULT at and above RLEN 0, so without a remainder RESULT reads 0. -/
def Obligations.EveryStepKeepsResultWithinItsWidth : Prop :=
  ∀ s t : State, s.Inv → s.ResultFits → step s = .next t → t.ResultFits

/-- R162: throughout eng = RUN, poly(W) ≡ poly(M)·x^r modulo poly(D): padding M with r zeros multiplies poly(M) by x^r, so an
accepted START establishes it; a window XOR adds poly(D)·x^(|W|-n); every step keeps it. -/
def Obligations.EveryStepKeepsTheResidue : Prop :=
  (∀ (r : Nat) (m : List Bool), poly (m ++ List.replicate r false) = poly m * Polynomial.X ^ r) ∧
  (∀ s t : State, s.Inv → s.eng = .idle → exec .start s = .next t → t.ValueOk) ∧
  (∀ d w : List Bool, d.length ≤ w.length →
    poly (windowXor d.length d w) = poly w + poly d * Polynomial.X ^ (w.length - d.length)) ∧
  (∀ s t : State, s.Inv → s.ValueOk → step s = .next t → t.ValueOk)

/-- R6, R7, R103: no step changes the parameters. -/
def Obligations.NoStepChangesTheParameters : Prop :=
  ∀ s t : State, step s = .next t → t.cfg = s.cfg

/-! ### The contract and the schedules -/

/-- R165, R166: the engine step that ends a computation delivers in RESULT the r-bit remainder of poly(M)·x^r divided by poly(D),
with RLEN = r = div_len - 1 and the bits above 0. -/
def Obligations.FinishDeliversTheRemainder : Prop :=
  ∀ s t : State, s.Inv → s.ValueOk → s.eng = .run → engineStep s = .next t → t.eng = .idle →
    t.rlen.toNat = s.divLen - 1 ∧ poly (remainderBits t.rlen.toNat t.result) = crcRemainder s.M s.D ∧
    t.result.toNat < 2 ^ t.rlen.toNat

/-- R5, R167, R232: a START on valid inputs, with no other input, ends after at most 2·msg_len + 1 engine steps with DONE, no
error, the stores unchanged, STEPS ≤ 2·msg_len and RESULT the CRC remainder of the message. -/
def Obligations.StartComputesTheCrcRemainder : Prop :=
  ∀ s : State, s.Inv → s.eng = .idle → s.rejectsStart = false → s.inputs = [.transaction (commandKey 2#32)] →
    ∃ t, runSteps (1 + (2 * s.msgLen + 1)) s = .next t ∧ t.eng = .idle ∧ t.done = true ∧
      t.errInvDiv = false ∧ t.errInvBit = false ∧ t.errCap = false ∧ t.errBusy = false ∧ t.errCmd = false ∧
      t.M = s.M ∧ t.D = s.D ∧ t.rlen.toNat = s.divLen - 1 ∧ t.steps.toNat ≤ 2 * s.msgLen ∧
      poly (remainderBits t.rlen.toNat t.result) = crcRemainder s.M s.D ∧ t.result.toNat < 2 ^ t.rlen.toNat

/-- R213, with R65 and R86: from reset, the divisor's bits pushed one by one, the message's bits pushed one by one, first element
first, a START and 2·msg_len + 1 engine steps leave DONE, no error and the CRC remainder of the pushed message. -/
def Obligations.CallingProtocolDeliversTheRemainder : Prop :=
  ∀ (c : Config) (m d : List Bool), ValidInputs c m d →
    ∃ t, runSteps (d.length + m.length + 1 + (2 * m.length + 1)) { State.resetWith c with inputs := callScript m d } = .next t ∧
      t.eng = .idle ∧ t.done = true ∧ t.errInvDiv = false ∧ t.errInvBit = false ∧ t.errCap = false ∧ t.errBusy = false ∧
      t.errCmd = false ∧ t.M = m ∧ t.D = d ∧ t.rlen.toNat = d.length - 1 ∧
      poly (remainderBits t.rlen.toNat t.result) = crcRemainder m d

/-- R170: when a computation on (M, D) gives the remainder sequence R, a computation on (M ++ R, D) gives the all-zero remainder. -/
def Obligations.RoundTripGivesTheZeroRemainder : Prop :=
  ∀ (c : Config) (m d : List Bool), ValidInputs c m d → m.length + (d.length - 1) ≤ c.msgCap →
    ∃ t u R, runSteps (2 * m.length + 2) (State.loaded c m d) = .next t ∧ R = remainderBits t.rlen.toNat t.result ∧
      runSteps (2 * (m ++ R).length + 2) (State.loaded c (m ++ R) d) = .next u ∧
      u.done = true ∧ u.result = 0#32 ∧ u.rlen.toNat = d.length - 1

/-- R168: from a running computation, any schedule of engine turns and host transactions other than CLEAR and START ends with the
RESULT, RLEN and STEPS of the schedule in which the engine runs alone. -/
def Obligations.ScheduleDoesNotChangeTheResult : Prop :=
  ∀ s : State, s.Inv → s.Progress → s.eng = .run → (∀ i ∈ s.inputs, i.quiet = true) →
    ∃ t u, runSteps (s.inputs.length + (2 * s.msgLen + 1)) s = .next t ∧
      runSteps (2 * s.msgLen + 1) { s with inputs := [] } = .next u ∧
      t.eng = .idle ∧ u.eng = .idle ∧ t.result = u.result ∧ t.rlen = u.rlen ∧ t.steps = u.steps

/-- R222: STEPS never decreases while a computation runs. -/
def Obligations.StepsNeverDecreaseDuringARun : Prop :=
  ∀ s t : State, s.Inv → s.Progress → s.eng = .run → step s = .next t → t.eng = .run → s.steps.toNat ≤ t.steps.toNat

/-- R71, R223: while eng = IDLE, RESULT, RLEN and STEPS change only at a START, CLEAR or reset, and done only at these or ACK;
in particular pushes and store clears leave a stale result. -/
def Obligations.IdleResultsAreFinal : Prop :=
  ∀ s t : State, s.eng = .idle → step s = .next t →
    (¬s.nextTransaction (fun j => j = .start ∨ j = .clear) → ¬s.nextReset →
      t.result = s.result ∧ t.rlen = s.rlen ∧ t.steps = s.steps ∧
      (¬s.nextTransaction (fun j => j = .ack) → t.done = s.done))

/-- R220, R168: while eng = RUN, M, D, their lengths and their input flags change only at a CLEAR or reset; W only at these or an
engine step. -/
def Obligations.InputsAreFrozenWhileBusy : Prop :=
  ∀ s t : State, s.eng = .run → step s = .next t → ¬s.nextTransaction (fun j => j = .clear) → ¬s.nextReset →
    t.M = s.M ∧ t.D = s.D ∧ t.msgLen = s.msgLen ∧ t.divLen = s.divLen ∧
    t.msgBad = s.msgBad ∧ t.divBad = s.divBad ∧ t.msgOvf = s.msgOvf ∧ t.divOvf = s.divOvf ∧
    (t.W = s.W ∨ s.inputs = [] ∨ ∃ rest, s.inputs = .engineTurn :: rest)

/-- R25, R32: a computation begins only at a START while IDLE on valid inputs, and done is set only by a finish. -/
def Obligations.RunBeginsOnlyAtAValidStart : Prop :=
  ∀ s t : State, step s = .next t →
    (s.eng = .idle → t.eng = .run → s.nextTransaction (fun j => j = .start) ∧ s.rejectsStart = false) ∧
    (s.done = false → t.done = true →
      s.eng = .run ∧ t.eng = .idle ∧ s.W.length ≤ s.divLen - 1 ∧ (s.inputs = [] ∨ ∃ rest, s.inputs = .engineTurn :: rest))
end

