-- ==== Sys2Proof/Laws/Decode.lean ====
section
/-!
SUPPORT. The fields of a key and the key of its fields.
-/

namespace Sys2Proof

/-- Each bit of a key lies in one of its three fields. -/
theorem mkKey_getLsbD (we : Bool) (idx : Index) (data : Word) (i : Nat) :
    (mkKey we idx data).getLsbD i =
      if i < 32 then data.getLsbD i else if i < 36 then idx.getLsbD (i - 32) else (decide (i = 36) && we) := by
  refine (BitVec.getLsbD_append (x := BitVec.ofBool we ++ idx) (y := data) (i := i)).trans ?_
  rw [BitVec.getLsbD_append]
  by_cases h : i < 32
  · simp [h]
  · by_cases h2 : i < 36
    · simp [h, h2, show i - 32 < 4 by omega]
    · have h3 : ¬ i - 32 < 4 := by omega
      simp only [h, h2, h3, if_false, BitVec.getLsbD_ofBool, show i - 32 - 4 = 0 ↔ i = 36 by omega]

@[simp] theorem keyWe_mkKey (we : Bool) (idx : Index) (data : Word) : keyWe (mkKey we idx data) = we := by
  rw [keyWe, mkKey_getLsbD]
  simp

@[simp] theorem keyIndex_mkKey (we : Bool) (idx : Index) (data : Word) : keyIndex (mkKey we idx data) = idx := by
  apply BitVec.eq_of_getLsbD_eq
  intro i hi
  have h4 : 32 + i < 36 := by omega
  simp [keyIndex, mkKey_getLsbD, hi, h4]

@[simp] theorem keyData_mkKey (we : Bool) (idx : Index) (data : Word) : keyData (mkKey we idx data) = data := by
  apply BitVec.eq_of_getLsbD_eq
  intro i hi
  simp [keyData, mkKey_getLsbD, hi]

/-- A key is made of its three fields. -/
theorem mkKey_fields (k : Key) : mkKey (keyWe k) (keyIndex k) (keyData k) = k := by
  apply BitVec.eq_of_getLsbD_eq
  intro i hi
  rw [mkKey_getLsbD, keyWe, keyIndex, keyData, BitVec.getLsbD_extractLsb', BitVec.getLsbD_extractLsb']
  split
  · simp [*]
  · split
    · simp [show i - 32 < 4 by omega, show 32 + (i - 32) = i by omega]
    · simp [show i = 36 by omega]

/-- Every key is the key of three fields. -/
theorem exists_mkKey (k : Key) : ∃ we idx data, k = mkKey we idx data :=
  ⟨_, _, _, (mkKey_fields k).symm⟩

/-- Masking a key masks its fields. -/
theorem mkKey_and (we we' : Bool) (idx idx' : Index) (data data' : Word) :
    mkKey we idx data &&& mkKey we' idx' data' = mkKey (we && we') (idx &&& idx') (data &&& data') := by
  apply BitVec.eq_of_getLsbD_eq
  intro i _
  simp only [BitVec.getLsbD_and, mkKey_getLsbD]
  split
  · rfl
  · split
    · rfl
    · cases decide (i = 36) <;> rfl

/-- Two keys are equal exactly where their fields are. -/
theorem mkKey_inj (we we' : Bool) (idx idx' : Index) (data data' : Word) :
    mkKey we idx data = mkKey we' idx' data' ↔ we = we' ∧ idx = idx' ∧ data = data' := by
  constructor
  · intro h
    refine ⟨?_, ?_, ?_⟩
    · simpa using congrArg keyWe h
    · simpa using congrArg keyIndex h
    · simpa using congrArg keyData h
  · rintro ⟨rfl, rfl, rfl⟩
    rfl

@[simp] theorem decodeKey_readKey (idx : Index) : decodeKey (readKey idx) = decodeRead idx := by
  simp [decodeKey, readKey]

@[simp] theorem decodeKey_writeKey (idx : Index) (data : Word) :
    decodeKey (writeKey idx data) = decodeWrite idx data := by
  simp [decodeKey, writeKey]

@[simp] theorem decodeKey_commandKey (word : Word) : decodeKey (commandKey word) = decodeCommand word := by
  simp [commandKey, decodeWrite]

/-- A row fits a key exactly where it fits the key's fields. -/
theorem row_fits_mkKey (m : String) (pw mw : Bool) (pi mi : Index) (pd md : Word) (we : Bool) (idx : Index) (data : Word) :
    (OpcodeRow.mk m (mkKey pw pi pd) (mkKey mw mi md)).fits (mkKey we idx data) = true ↔
      (we && mw) = pw ∧ idx &&& mi = pi ∧ data &&& md = pd := by
  simp only [OpcodeRow.fits, mkKey_and, beq_iff_eq, mkKey_inj]

end Sys2Proof
end

