-- ==== Sys2Proof/Laws/Engine.lean ====
section
/-!
SUPPORT. The primitives of an iteration: lengths, elements and bounds.
-/

namespace Sys2Proof.Machine

/-! ### The window XOR -/

theorem windowXor_length (n : Nat) (d w : List Bool) (hd : n ≤ d.length) (hw : n ≤ w.length) :
    (windowXor n d w).length = w.length := by
  simp [windowXor, Nat.min_eq_left hd, hw]

/-- The window and what follows it, when the sequence is given in two parts. -/
theorem windowXor_append (d w v : List Bool) (h : w.length = d.length) :
    windowXor d.length d (w ++ v) = List.zipWith (fun a b => a ^^ b) w d ++ v := by
  simp [windowXor, ← h, List.take_of_length_le h.ge]

theorem windowXor_cons (n : Nat) (a b : Bool) (d w : List Bool) :
    windowXor (n + 1) (a :: d) (b :: w) = (b ^^ a) :: windowXor n d w := by
  simp [windowXor]

/-! ### The scan -/

@[simp] theorem leadingZeros_nil : leadingZeros [] = 0 := rfl
@[simp] theorem leadingZeros_true (w : List Bool) : leadingZeros (true :: w) = 0 := rfl
@[simp] theorem leadingZeros_false (w : List Bool) : leadingZeros (false :: w) = leadingZeros w + 1 := rfl

theorem leadingZeros_le_length (w : List Bool) : leadingZeros w ≤ w.length := by
  induction w with
  | nil => simp
  | cons b w ih => cases b <;> simp [ih]

/-- What the scan counts are zeros. -/
theorem take_leadingZeros (w : List Bool) : w.take (leadingZeros w) = List.replicate (leadingZeros w) false := by
  induction w with
  | nil => simp
  | cons b w ih => cases b <;> simp [ih, List.replicate_succ]

theorem leadingZeroScan_le (r : Nat) (w : List Bool) : leadingZeroScan r w ≤ r :=
  (leadingZeros_le_length _).trans (by simp)

/-- What the scan counts are the first elements of the whole sequence, all zeros. -/
theorem take_leadingZeroScan (r : Nat) (w : List Bool) :
    w.take (leadingZeroScan r w) = List.replicate (leadingZeroScan r w) false := by
  have h := take_leadingZeros (w.take r)
  rwa [List.take_take, ← leadingZeroScan, Nat.min_eq_left (leadingZeroScan_le r w)] at h

/-- The scan finds nothing exactly where the first element is 1, for a non-empty scan of a non-empty sequence. -/
theorem leadingZeroScan_eq_zero (r : Nat) (b : Bool) (w : List Bool) :
    leadingZeroScan (r + 1) (b :: w) = 0 ↔ b = true := by
  cases b <;> simp [leadingZeroScan]

/-! ### Packing -/

@[simp] theorem bitsToNat_nil : bitsToNat [] = 0 := rfl

theorem bitsToNat_append_singleton (w : List Bool) (b : Bool) : bitsToNat (w ++ [b]) = 2 * bitsToNat w + b.toNat := by
  simp [bitsToNat]

/-- A sequence of r bits is a number below 2^r. -/
theorem bitsToNat_lt (w : List Bool) : bitsToNat w < 2 ^ w.length := by
  induction w using List.reverseRecOn with
  | nil => simp
  | append_singleton w b ih =>
    rw [bitsToNat_append_singleton, List.length_append, List.length_singleton, pow_succ]
    cases b <;> simp <;> omega

theorem pack_toNat (w : List Bool) (h : w.length ≤ 32) : (pack w).toNat = bitsToNat w := by
  have h1 := bitsToNat_lt w
  have h2 : 2 ^ w.length ≤ 2 ^ 32 := Nat.pow_le_pow_right (by omega) h
  simp only [pack, BitVec.toNat_ofNat]
  exact Nat.mod_eq_of_lt (by omega)

/-! ### Lengths along the engine's steps -/

theorem initialBuffer_length (s : State) : s.initialBuffer.length = s.M.length + s.width := by
  simp [State.initialBuffer]

theorem padBuffer_length (s : State) (h : s.W.length ≤ s.width) : s.padBuffer.W.length = s.width := by
  simp [State.padBuffer]
  omega

end Sys2Proof.Machine
end

