-- ==== Sys2Proof/Laws/State.lean ====
section
/-!
SUPPORT. One lemma per field per update of the state, true by rfl, so that no proof unfolds a record update.
-/

namespace Sys2Proof.Machine

/-! ### State.reply: a read changes the host's record alone -/

@[simp] theorem State.reply_cfg (s : State) (v : Word) : (s.reply v).cfg = s.cfg := rfl
@[simp] theorem State.reply_M (s : State) (v : Word) : (s.reply v).M = s.M := rfl
@[simp] theorem State.reply_msgLen (s : State) (v : Word) : (s.reply v).msgLen = s.msgLen := rfl
@[simp] theorem State.reply_msgBad (s : State) (v : Word) : (s.reply v).msgBad = s.msgBad := rfl
@[simp] theorem State.reply_msgOvf (s : State) (v : Word) : (s.reply v).msgOvf = s.msgOvf := rfl
@[simp] theorem State.reply_D (s : State) (v : Word) : (s.reply v).D = s.D := rfl
@[simp] theorem State.reply_divLen (s : State) (v : Word) : (s.reply v).divLen = s.divLen := rfl
@[simp] theorem State.reply_divBad (s : State) (v : Word) : (s.reply v).divBad = s.divBad := rfl
@[simp] theorem State.reply_divOvf (s : State) (v : Word) : (s.reply v).divOvf = s.divOvf := rfl
@[simp] theorem State.reply_W (s : State) (v : Word) : (s.reply v).W = s.W := rfl
@[simp] theorem State.reply_eng (s : State) (v : Word) : (s.reply v).eng = s.eng := rfl
@[simp] theorem State.reply_done (s : State) (v : Word) : (s.reply v).done = s.done := rfl
@[simp] theorem State.reply_errInvDiv (s : State) (v : Word) : (s.reply v).errInvDiv = s.errInvDiv := rfl
@[simp] theorem State.reply_errInvBit (s : State) (v : Word) : (s.reply v).errInvBit = s.errInvBit := rfl
@[simp] theorem State.reply_errCap (s : State) (v : Word) : (s.reply v).errCap = s.errCap := rfl
@[simp] theorem State.reply_errBusy (s : State) (v : Word) : (s.reply v).errBusy = s.errBusy := rfl
@[simp] theorem State.reply_errCmd (s : State) (v : Word) : (s.reply v).errCmd = s.errCmd := rfl
@[simp] theorem State.reply_result (s : State) (v : Word) : (s.reply v).result = s.result := rfl
@[simp] theorem State.reply_rlen (s : State) (v : Word) : (s.reply v).rlen = s.rlen := rfl
@[simp] theorem State.reply_steps (s : State) (v : Word) : (s.reply v).steps = s.steps := rfl
@[simp] theorem State.reply_ie (s : State) (v : Word) : (s.reply v).ie = s.ie := rfl
@[simp] theorem State.reply_inputs (s : State) (v : Word) : (s.reply v).inputs = s.inputs := rfl
@[simp] theorem State.reply_replies (s : State) (v : Word) : (s.reply v).replies = s.replies ++ [v] := rfl

/-! ### State.emptyMsg: CLR_MSG's effect -/

@[simp] theorem State.emptyMsg_cfg (s : State) : (s.emptyMsg).cfg = s.cfg := rfl
@[simp] theorem State.emptyMsg_M (s : State) : (s.emptyMsg).M = [] := rfl
@[simp] theorem State.emptyMsg_msgLen (s : State) : (s.emptyMsg).msgLen = 0 := rfl
@[simp] theorem State.emptyMsg_msgBad (s : State) : (s.emptyMsg).msgBad = false := rfl
@[simp] theorem State.emptyMsg_msgOvf (s : State) : (s.emptyMsg).msgOvf = false := rfl
@[simp] theorem State.emptyMsg_D (s : State) : (s.emptyMsg).D = s.D := rfl
@[simp] theorem State.emptyMsg_divLen (s : State) : (s.emptyMsg).divLen = s.divLen := rfl
@[simp] theorem State.emptyMsg_divBad (s : State) : (s.emptyMsg).divBad = s.divBad := rfl
@[simp] theorem State.emptyMsg_divOvf (s : State) : (s.emptyMsg).divOvf = s.divOvf := rfl
@[simp] theorem State.emptyMsg_W (s : State) : (s.emptyMsg).W = s.W := rfl
@[simp] theorem State.emptyMsg_eng (s : State) : (s.emptyMsg).eng = s.eng := rfl
@[simp] theorem State.emptyMsg_done (s : State) : (s.emptyMsg).done = s.done := rfl
@[simp] theorem State.emptyMsg_errInvDiv (s : State) : (s.emptyMsg).errInvDiv = s.errInvDiv := rfl
@[simp] theorem State.emptyMsg_errInvBit (s : State) : (s.emptyMsg).errInvBit = s.errInvBit := rfl
@[simp] theorem State.emptyMsg_errCap (s : State) : (s.emptyMsg).errCap = s.errCap := rfl
@[simp] theorem State.emptyMsg_errBusy (s : State) : (s.emptyMsg).errBusy = s.errBusy := rfl
@[simp] theorem State.emptyMsg_errCmd (s : State) : (s.emptyMsg).errCmd = s.errCmd := rfl
@[simp] theorem State.emptyMsg_result (s : State) : (s.emptyMsg).result = s.result := rfl
@[simp] theorem State.emptyMsg_rlen (s : State) : (s.emptyMsg).rlen = s.rlen := rfl
@[simp] theorem State.emptyMsg_steps (s : State) : (s.emptyMsg).steps = s.steps := rfl
@[simp] theorem State.emptyMsg_ie (s : State) : (s.emptyMsg).ie = s.ie := rfl
@[simp] theorem State.emptyMsg_inputs (s : State) : (s.emptyMsg).inputs = s.inputs := rfl
@[simp] theorem State.emptyMsg_replies (s : State) : (s.emptyMsg).replies = s.replies := rfl

/-! ### State.emptyDiv: CLR_DIV's effect -/

@[simp] theorem State.emptyDiv_cfg (s : State) : (s.emptyDiv).cfg = s.cfg := rfl
@[simp] theorem State.emptyDiv_M (s : State) : (s.emptyDiv).M = s.M := rfl
@[simp] theorem State.emptyDiv_msgLen (s : State) : (s.emptyDiv).msgLen = s.msgLen := rfl
@[simp] theorem State.emptyDiv_msgBad (s : State) : (s.emptyDiv).msgBad = s.msgBad := rfl
@[simp] theorem State.emptyDiv_msgOvf (s : State) : (s.emptyDiv).msgOvf = s.msgOvf := rfl
@[simp] theorem State.emptyDiv_D (s : State) : (s.emptyDiv).D = [] := rfl
@[simp] theorem State.emptyDiv_divLen (s : State) : (s.emptyDiv).divLen = 0 := rfl
@[simp] theorem State.emptyDiv_divBad (s : State) : (s.emptyDiv).divBad = false := rfl
@[simp] theorem State.emptyDiv_divOvf (s : State) : (s.emptyDiv).divOvf = false := rfl
@[simp] theorem State.emptyDiv_W (s : State) : (s.emptyDiv).W = s.W := rfl
@[simp] theorem State.emptyDiv_eng (s : State) : (s.emptyDiv).eng = s.eng := rfl
@[simp] theorem State.emptyDiv_done (s : State) : (s.emptyDiv).done = s.done := rfl
@[simp] theorem State.emptyDiv_errInvDiv (s : State) : (s.emptyDiv).errInvDiv = s.errInvDiv := rfl
@[simp] theorem State.emptyDiv_errInvBit (s : State) : (s.emptyDiv).errInvBit = s.errInvBit := rfl
@[simp] theorem State.emptyDiv_errCap (s : State) : (s.emptyDiv).errCap = s.errCap := rfl
@[simp] theorem State.emptyDiv_errBusy (s : State) : (s.emptyDiv).errBusy = s.errBusy := rfl
@[simp] theorem State.emptyDiv_errCmd (s : State) : (s.emptyDiv).errCmd = s.errCmd := rfl
@[simp] theorem State.emptyDiv_result (s : State) : (s.emptyDiv).result = s.result := rfl
@[simp] theorem State.emptyDiv_rlen (s : State) : (s.emptyDiv).rlen = s.rlen := rfl
@[simp] theorem State.emptyDiv_steps (s : State) : (s.emptyDiv).steps = s.steps := rfl
@[simp] theorem State.emptyDiv_ie (s : State) : (s.emptyDiv).ie = s.ie := rfl
@[simp] theorem State.emptyDiv_inputs (s : State) : (s.emptyDiv).inputs = s.inputs := rfl
@[simp] theorem State.emptyDiv_replies (s : State) : (s.emptyDiv).replies = s.replies := rfl

/-! ### State.clearEvents: ACK's effect -/

@[simp] theorem State.clearEvents_cfg (s : State) : (s.clearEvents).cfg = s.cfg := rfl
@[simp] theorem State.clearEvents_M (s : State) : (s.clearEvents).M = s.M := rfl
@[simp] theorem State.clearEvents_msgLen (s : State) : (s.clearEvents).msgLen = s.msgLen := rfl
@[simp] theorem State.clearEvents_msgBad (s : State) : (s.clearEvents).msgBad = s.msgBad := rfl
@[simp] theorem State.clearEvents_msgOvf (s : State) : (s.clearEvents).msgOvf = s.msgOvf := rfl
@[simp] theorem State.clearEvents_D (s : State) : (s.clearEvents).D = s.D := rfl
@[simp] theorem State.clearEvents_divLen (s : State) : (s.clearEvents).divLen = s.divLen := rfl
@[simp] theorem State.clearEvents_divBad (s : State) : (s.clearEvents).divBad = s.divBad := rfl
@[simp] theorem State.clearEvents_divOvf (s : State) : (s.clearEvents).divOvf = s.divOvf := rfl
@[simp] theorem State.clearEvents_W (s : State) : (s.clearEvents).W = s.W := rfl
@[simp] theorem State.clearEvents_eng (s : State) : (s.clearEvents).eng = s.eng := rfl
@[simp] theorem State.clearEvents_done (s : State) : (s.clearEvents).done = false := rfl
@[simp] theorem State.clearEvents_errInvDiv (s : State) : (s.clearEvents).errInvDiv = false := rfl
@[simp] theorem State.clearEvents_errInvBit (s : State) : (s.clearEvents).errInvBit = false := rfl
@[simp] theorem State.clearEvents_errCap (s : State) : (s.clearEvents).errCap = false := rfl
@[simp] theorem State.clearEvents_errBusy (s : State) : (s.clearEvents).errBusy = false := rfl
@[simp] theorem State.clearEvents_errCmd (s : State) : (s.clearEvents).errCmd = false := rfl
@[simp] theorem State.clearEvents_result (s : State) : (s.clearEvents).result = s.result := rfl
@[simp] theorem State.clearEvents_rlen (s : State) : (s.clearEvents).rlen = s.rlen := rfl
@[simp] theorem State.clearEvents_steps (s : State) : (s.clearEvents).steps = s.steps := rfl
@[simp] theorem State.clearEvents_ie (s : State) : (s.clearEvents).ie = s.ie := rfl
@[simp] theorem State.clearEvents_inputs (s : State) : (s.clearEvents).inputs = s.inputs := rfl
@[simp] theorem State.clearEvents_replies (s : State) : (s.clearEvents).replies = s.replies := rfl

/-! ### State.clearResult: the result state cleared -/

@[simp] theorem State.clearResult_cfg (s : State) : (s.clearResult).cfg = s.cfg := rfl
@[simp] theorem State.clearResult_M (s : State) : (s.clearResult).M = s.M := rfl
@[simp] theorem State.clearResult_msgLen (s : State) : (s.clearResult).msgLen = s.msgLen := rfl
@[simp] theorem State.clearResult_msgBad (s : State) : (s.clearResult).msgBad = s.msgBad := rfl
@[simp] theorem State.clearResult_msgOvf (s : State) : (s.clearResult).msgOvf = s.msgOvf := rfl
@[simp] theorem State.clearResult_D (s : State) : (s.clearResult).D = s.D := rfl
@[simp] theorem State.clearResult_divLen (s : State) : (s.clearResult).divLen = s.divLen := rfl
@[simp] theorem State.clearResult_divBad (s : State) : (s.clearResult).divBad = s.divBad := rfl
@[simp] theorem State.clearResult_divOvf (s : State) : (s.clearResult).divOvf = s.divOvf := rfl
@[simp] theorem State.clearResult_W (s : State) : (s.clearResult).W = s.W := rfl
@[simp] theorem State.clearResult_eng (s : State) : (s.clearResult).eng = s.eng := rfl
@[simp] theorem State.clearResult_done (s : State) : (s.clearResult).done = s.done := rfl
@[simp] theorem State.clearResult_errInvDiv (s : State) : (s.clearResult).errInvDiv = s.errInvDiv := rfl
@[simp] theorem State.clearResult_errInvBit (s : State) : (s.clearResult).errInvBit = s.errInvBit := rfl
@[simp] theorem State.clearResult_errCap (s : State) : (s.clearResult).errCap = s.errCap := rfl
@[simp] theorem State.clearResult_errBusy (s : State) : (s.clearResult).errBusy = s.errBusy := rfl
@[simp] theorem State.clearResult_errCmd (s : State) : (s.clearResult).errCmd = s.errCmd := rfl
@[simp] theorem State.clearResult_result (s : State) : (s.clearResult).result = 0#32 := rfl
@[simp] theorem State.clearResult_rlen (s : State) : (s.clearResult).rlen = 0#6 := rfl
@[simp] theorem State.clearResult_steps (s : State) : (s.clearResult).steps = 0#32 := rfl
@[simp] theorem State.clearResult_ie (s : State) : (s.clearResult).ie = s.ie := rfl
@[simp] theorem State.clearResult_inputs (s : State) : (s.clearResult).inputs = s.inputs := rfl
@[simp] theorem State.clearResult_replies (s : State) : (s.clearResult).replies = s.replies := rfl

/-! ### State.haltEngine: the engine stopped -/

@[simp] theorem State.haltEngine_cfg (s : State) : (s.haltEngine).cfg = s.cfg := rfl
@[simp] theorem State.haltEngine_M (s : State) : (s.haltEngine).M = s.M := rfl
@[simp] theorem State.haltEngine_msgLen (s : State) : (s.haltEngine).msgLen = s.msgLen := rfl
@[simp] theorem State.haltEngine_msgBad (s : State) : (s.haltEngine).msgBad = s.msgBad := rfl
@[simp] theorem State.haltEngine_msgOvf (s : State) : (s.haltEngine).msgOvf = s.msgOvf := rfl
@[simp] theorem State.haltEngine_D (s : State) : (s.haltEngine).D = s.D := rfl
@[simp] theorem State.haltEngine_divLen (s : State) : (s.haltEngine).divLen = s.divLen := rfl
@[simp] theorem State.haltEngine_divBad (s : State) : (s.haltEngine).divBad = s.divBad := rfl
@[simp] theorem State.haltEngine_divOvf (s : State) : (s.haltEngine).divOvf = s.divOvf := rfl
@[simp] theorem State.haltEngine_W (s : State) : (s.haltEngine).W = [] := rfl
@[simp] theorem State.haltEngine_eng (s : State) : (s.haltEngine).eng = .idle := rfl
@[simp] theorem State.haltEngine_done (s : State) : (s.haltEngine).done = s.done := rfl
@[simp] theorem State.haltEngine_errInvDiv (s : State) : (s.haltEngine).errInvDiv = s.errInvDiv := rfl
@[simp] theorem State.haltEngine_errInvBit (s : State) : (s.haltEngine).errInvBit = s.errInvBit := rfl
@[simp] theorem State.haltEngine_errCap (s : State) : (s.haltEngine).errCap = s.errCap := rfl
@[simp] theorem State.haltEngine_errBusy (s : State) : (s.haltEngine).errBusy = s.errBusy := rfl
@[simp] theorem State.haltEngine_errCmd (s : State) : (s.haltEngine).errCmd = s.errCmd := rfl
@[simp] theorem State.haltEngine_result (s : State) : (s.haltEngine).result = s.result := rfl
@[simp] theorem State.haltEngine_rlen (s : State) : (s.haltEngine).rlen = s.rlen := rfl
@[simp] theorem State.haltEngine_steps (s : State) : (s.haltEngine).steps = s.steps := rfl
@[simp] theorem State.haltEngine_ie (s : State) : (s.haltEngine).ie = s.ie := rfl
@[simp] theorem State.haltEngine_inputs (s : State) : (s.haltEngine).inputs = s.inputs := rfl
@[simp] theorem State.haltEngine_replies (s : State) : (s.haltEngine).replies = s.replies := rfl

/-! ### State.finish: FINISH -/

@[simp] theorem State.finish_cfg (s : State) : (s.finish).cfg = s.cfg := rfl
@[simp] theorem State.finish_M (s : State) : (s.finish).M = s.M := rfl
@[simp] theorem State.finish_msgLen (s : State) : (s.finish).msgLen = s.msgLen := rfl
@[simp] theorem State.finish_msgBad (s : State) : (s.finish).msgBad = s.msgBad := rfl
@[simp] theorem State.finish_msgOvf (s : State) : (s.finish).msgOvf = s.msgOvf := rfl
@[simp] theorem State.finish_D (s : State) : (s.finish).D = s.D := rfl
@[simp] theorem State.finish_divLen (s : State) : (s.finish).divLen = s.divLen := rfl
@[simp] theorem State.finish_divBad (s : State) : (s.finish).divBad = s.divBad := rfl
@[simp] theorem State.finish_divOvf (s : State) : (s.finish).divOvf = s.divOvf := rfl
@[simp] theorem State.finish_W (s : State) : (s.finish).W = [] := rfl
@[simp] theorem State.finish_eng (s : State) : (s.finish).eng = .idle := rfl
@[simp] theorem State.finish_done (s : State) : (s.finish).done = true := rfl
@[simp] theorem State.finish_errInvDiv (s : State) : (s.finish).errInvDiv = s.errInvDiv := rfl
@[simp] theorem State.finish_errInvBit (s : State) : (s.finish).errInvBit = s.errInvBit := rfl
@[simp] theorem State.finish_errCap (s : State) : (s.finish).errCap = s.errCap := rfl
@[simp] theorem State.finish_errBusy (s : State) : (s.finish).errBusy = s.errBusy := rfl
@[simp] theorem State.finish_errCmd (s : State) : (s.finish).errCmd = s.errCmd := rfl
@[simp] theorem State.finish_result (s : State) : (s.finish).result = pack s.W := rfl
@[simp] theorem State.finish_rlen (s : State) : (s.finish).rlen = BitVec.ofNat 6 s.width := rfl
@[simp] theorem State.finish_steps (s : State) : (s.finish).steps = s.steps := rfl
@[simp] theorem State.finish_ie (s : State) : (s.finish).ie = s.ie := rfl
@[simp] theorem State.finish_inputs (s : State) : (s.finish).inputs = s.inputs := rfl
@[simp] theorem State.finish_replies (s : State) : (s.finish).replies = s.replies := rfl

/-! ### State.padBuffer: the left pad -/

@[simp] theorem State.padBuffer_cfg (s : State) : (s.padBuffer).cfg = s.cfg := rfl
@[simp] theorem State.padBuffer_M (s : State) : (s.padBuffer).M = s.M := rfl
@[simp] theorem State.padBuffer_msgLen (s : State) : (s.padBuffer).msgLen = s.msgLen := rfl
@[simp] theorem State.padBuffer_msgBad (s : State) : (s.padBuffer).msgBad = s.msgBad := rfl
@[simp] theorem State.padBuffer_msgOvf (s : State) : (s.padBuffer).msgOvf = s.msgOvf := rfl
@[simp] theorem State.padBuffer_D (s : State) : (s.padBuffer).D = s.D := rfl
@[simp] theorem State.padBuffer_divLen (s : State) : (s.padBuffer).divLen = s.divLen := rfl
@[simp] theorem State.padBuffer_divBad (s : State) : (s.padBuffer).divBad = s.divBad := rfl
@[simp] theorem State.padBuffer_divOvf (s : State) : (s.padBuffer).divOvf = s.divOvf := rfl
@[simp] theorem State.padBuffer_W (s : State) : (s.padBuffer).W = List.replicate (s.width - s.W.length) false ++ s.W := rfl
@[simp] theorem State.padBuffer_eng (s : State) : (s.padBuffer).eng = s.eng := rfl
@[simp] theorem State.padBuffer_done (s : State) : (s.padBuffer).done = s.done := rfl
@[simp] theorem State.padBuffer_errInvDiv (s : State) : (s.padBuffer).errInvDiv = s.errInvDiv := rfl
@[simp] theorem State.padBuffer_errInvBit (s : State) : (s.padBuffer).errInvBit = s.errInvBit := rfl
@[simp] theorem State.padBuffer_errCap (s : State) : (s.padBuffer).errCap = s.errCap := rfl
@[simp] theorem State.padBuffer_errBusy (s : State) : (s.padBuffer).errBusy = s.errBusy := rfl
@[simp] theorem State.padBuffer_errCmd (s : State) : (s.padBuffer).errCmd = s.errCmd := rfl
@[simp] theorem State.padBuffer_result (s : State) : (s.padBuffer).result = s.result := rfl
@[simp] theorem State.padBuffer_rlen (s : State) : (s.padBuffer).rlen = s.rlen := rfl
@[simp] theorem State.padBuffer_steps (s : State) : (s.padBuffer).steps = s.steps := rfl
@[simp] theorem State.padBuffer_ie (s : State) : (s.padBuffer).ie = s.ie := rfl
@[simp] theorem State.padBuffer_inputs (s : State) : (s.padBuffer).inputs = s.inputs := rfl
@[simp] theorem State.padBuffer_replies (s : State) : (s.padBuffer).replies = s.replies := rfl

/-! ### State.iterate: ITERATE -/

@[simp] theorem State.iterate_cfg (s : State) : (s.iterate).cfg = s.cfg := rfl
@[simp] theorem State.iterate_M (s : State) : (s.iterate).M = s.M := rfl
@[simp] theorem State.iterate_msgLen (s : State) : (s.iterate).msgLen = s.msgLen := rfl
@[simp] theorem State.iterate_msgBad (s : State) : (s.iterate).msgBad = s.msgBad := rfl
@[simp] theorem State.iterate_msgOvf (s : State) : (s.iterate).msgOvf = s.msgOvf := rfl
@[simp] theorem State.iterate_D (s : State) : (s.iterate).D = s.D := rfl
@[simp] theorem State.iterate_divLen (s : State) : (s.iterate).divLen = s.divLen := rfl
@[simp] theorem State.iterate_divBad (s : State) : (s.iterate).divBad = s.divBad := rfl
@[simp] theorem State.iterate_divOvf (s : State) : (s.iterate).divOvf = s.divOvf := rfl
@[simp] theorem State.iterate_W (s : State) : (s.iterate).W = (windowXor s.divLen s.D s.W).drop (leadingZeroScan s.width (windowXor s.divLen s.D s.W)) := rfl
@[simp] theorem State.iterate_eng (s : State) : (s.iterate).eng = s.eng := rfl
@[simp] theorem State.iterate_done (s : State) : (s.iterate).done = s.done := rfl
@[simp] theorem State.iterate_errInvDiv (s : State) : (s.iterate).errInvDiv = s.errInvDiv := rfl
@[simp] theorem State.iterate_errInvBit (s : State) : (s.iterate).errInvBit = s.errInvBit := rfl
@[simp] theorem State.iterate_errCap (s : State) : (s.iterate).errCap = s.errCap := rfl
@[simp] theorem State.iterate_errBusy (s : State) : (s.iterate).errBusy = s.errBusy := rfl
@[simp] theorem State.iterate_errCmd (s : State) : (s.iterate).errCmd = s.errCmd := rfl
@[simp] theorem State.iterate_result (s : State) : (s.iterate).result = s.result := rfl
@[simp] theorem State.iterate_rlen (s : State) : (s.iterate).rlen = s.rlen := rfl
@[simp] theorem State.iterate_steps (s : State) : (s.iterate).steps = s.steps + 1 := rfl
@[simp] theorem State.iterate_ie (s : State) : (s.iterate).ie = s.ie := rfl
@[simp] theorem State.iterate_inputs (s : State) : (s.iterate).inputs = s.inputs := rfl
@[simp] theorem State.iterate_replies (s : State) : (s.iterate).replies = s.replies := rfl

/-! ### State.beginRun: a computation begun -/

@[simp] theorem State.beginRun_cfg (s : State) : (s.beginRun).cfg = s.cfg := rfl
@[simp] theorem State.beginRun_M (s : State) : (s.beginRun).M = s.M := rfl
@[simp] theorem State.beginRun_msgLen (s : State) : (s.beginRun).msgLen = s.msgLen := rfl
@[simp] theorem State.beginRun_msgBad (s : State) : (s.beginRun).msgBad = s.msgBad := rfl
@[simp] theorem State.beginRun_msgOvf (s : State) : (s.beginRun).msgOvf = s.msgOvf := rfl
@[simp] theorem State.beginRun_D (s : State) : (s.beginRun).D = s.D := rfl
@[simp] theorem State.beginRun_divLen (s : State) : (s.beginRun).divLen = s.divLen := rfl
@[simp] theorem State.beginRun_divBad (s : State) : (s.beginRun).divBad = s.divBad := rfl
@[simp] theorem State.beginRun_divOvf (s : State) : (s.beginRun).divOvf = s.divOvf := rfl
@[simp] theorem State.beginRun_W (s : State) : (s.beginRun).W = s.initialBuffer := rfl
@[simp] theorem State.beginRun_eng (s : State) : (s.beginRun).eng = .run := rfl
@[simp] theorem State.beginRun_done (s : State) : (s.beginRun).done = s.done := rfl
@[simp] theorem State.beginRun_errInvDiv (s : State) : (s.beginRun).errInvDiv = s.errInvDiv := rfl
@[simp] theorem State.beginRun_errInvBit (s : State) : (s.beginRun).errInvBit = s.errInvBit := rfl
@[simp] theorem State.beginRun_errCap (s : State) : (s.beginRun).errCap = s.errCap := rfl
@[simp] theorem State.beginRun_errBusy (s : State) : (s.beginRun).errBusy = s.errBusy := rfl
@[simp] theorem State.beginRun_errCmd (s : State) : (s.beginRun).errCmd = s.errCmd := rfl
@[simp] theorem State.beginRun_result (s : State) : (s.beginRun).result = s.result := rfl
@[simp] theorem State.beginRun_rlen (s : State) : (s.beginRun).rlen = s.rlen := rfl
@[simp] theorem State.beginRun_steps (s : State) : (s.beginRun).steps = s.steps := rfl
@[simp] theorem State.beginRun_ie (s : State) : (s.beginRun).ie = s.ie := rfl
@[simp] theorem State.beginRun_inputs (s : State) : (s.beginRun).inputs = s.inputs := rfl
@[simp] theorem State.beginRun_replies (s : State) : (s.beginRun).replies = s.replies := rfl

/-! ### State.resetEvent: the reset event -/

@[simp] theorem State.resetEvent_cfg (s : State) : (s.resetEvent).cfg = s.cfg := rfl
@[simp] theorem State.resetEvent_M (s : State) : (s.resetEvent).M = [] := rfl
@[simp] theorem State.resetEvent_msgLen (s : State) : (s.resetEvent).msgLen = 0 := rfl
@[simp] theorem State.resetEvent_msgBad (s : State) : (s.resetEvent).msgBad = false := rfl
@[simp] theorem State.resetEvent_msgOvf (s : State) : (s.resetEvent).msgOvf = false := rfl
@[simp] theorem State.resetEvent_D (s : State) : (s.resetEvent).D = [] := rfl
@[simp] theorem State.resetEvent_divLen (s : State) : (s.resetEvent).divLen = 0 := rfl
@[simp] theorem State.resetEvent_divBad (s : State) : (s.resetEvent).divBad = false := rfl
@[simp] theorem State.resetEvent_divOvf (s : State) : (s.resetEvent).divOvf = false := rfl
@[simp] theorem State.resetEvent_W (s : State) : (s.resetEvent).W = [] := rfl
@[simp] theorem State.resetEvent_eng (s : State) : (s.resetEvent).eng = .idle := rfl
@[simp] theorem State.resetEvent_done (s : State) : (s.resetEvent).done = false := rfl
@[simp] theorem State.resetEvent_errInvDiv (s : State) : (s.resetEvent).errInvDiv = false := rfl
@[simp] theorem State.resetEvent_errInvBit (s : State) : (s.resetEvent).errInvBit = false := rfl
@[simp] theorem State.resetEvent_errCap (s : State) : (s.resetEvent).errCap = false := rfl
@[simp] theorem State.resetEvent_errBusy (s : State) : (s.resetEvent).errBusy = false := rfl
@[simp] theorem State.resetEvent_errCmd (s : State) : (s.resetEvent).errCmd = false := rfl
@[simp] theorem State.resetEvent_result (s : State) : (s.resetEvent).result = 0#32 := rfl
@[simp] theorem State.resetEvent_rlen (s : State) : (s.resetEvent).rlen = 0#6 := rfl
@[simp] theorem State.resetEvent_steps (s : State) : (s.resetEvent).steps = 0#32 := rfl
@[simp] theorem State.resetEvent_ie (s : State) : (s.resetEvent).ie = false := rfl
@[simp] theorem State.resetEvent_inputs (s : State) : (s.resetEvent).inputs = s.inputs := rfl
@[simp] theorem State.resetEvent_replies (s : State) : (s.resetEvent).replies = s.replies := rfl

/-! ### State.present: a transaction presented -/

@[simp] theorem State.present_cfg (s : State) (k : Key) : (s.present k).cfg = s.cfg := rfl
@[simp] theorem State.present_M (s : State) (k : Key) : (s.present k).M = s.M := rfl
@[simp] theorem State.present_msgLen (s : State) (k : Key) : (s.present k).msgLen = s.msgLen := rfl
@[simp] theorem State.present_msgBad (s : State) (k : Key) : (s.present k).msgBad = s.msgBad := rfl
@[simp] theorem State.present_msgOvf (s : State) (k : Key) : (s.present k).msgOvf = s.msgOvf := rfl
@[simp] theorem State.present_D (s : State) (k : Key) : (s.present k).D = s.D := rfl
@[simp] theorem State.present_divLen (s : State) (k : Key) : (s.present k).divLen = s.divLen := rfl
@[simp] theorem State.present_divBad (s : State) (k : Key) : (s.present k).divBad = s.divBad := rfl
@[simp] theorem State.present_divOvf (s : State) (k : Key) : (s.present k).divOvf = s.divOvf := rfl
@[simp] theorem State.present_W (s : State) (k : Key) : (s.present k).W = s.W := rfl
@[simp] theorem State.present_eng (s : State) (k : Key) : (s.present k).eng = s.eng := rfl
@[simp] theorem State.present_done (s : State) (k : Key) : (s.present k).done = s.done := rfl
@[simp] theorem State.present_errInvDiv (s : State) (k : Key) : (s.present k).errInvDiv = s.errInvDiv := rfl
@[simp] theorem State.present_errInvBit (s : State) (k : Key) : (s.present k).errInvBit = s.errInvBit := rfl
@[simp] theorem State.present_errCap (s : State) (k : Key) : (s.present k).errCap = s.errCap := rfl
@[simp] theorem State.present_errBusy (s : State) (k : Key) : (s.present k).errBusy = s.errBusy := rfl
@[simp] theorem State.present_errCmd (s : State) (k : Key) : (s.present k).errCmd = s.errCmd := rfl
@[simp] theorem State.present_result (s : State) (k : Key) : (s.present k).result = s.result := rfl
@[simp] theorem State.present_rlen (s : State) (k : Key) : (s.present k).rlen = s.rlen := rfl
@[simp] theorem State.present_steps (s : State) (k : Key) : (s.present k).steps = s.steps := rfl
@[simp] theorem State.present_ie (s : State) (k : Key) : (s.present k).ie = s.ie := rfl
@[simp] theorem State.present_inputs (s : State) (k : Key) : (s.present k).inputs = .transaction k :: s.inputs := rfl
@[simp] theorem State.present_replies (s : State) (k : Key) : (s.present k).replies = s.replies := rfl

/-! ### State.raise: an error's flag alone -/

@[simp] theorem State.raise_cfg (s : State) (e : ErrorFlag) : (s.raise e).cfg = s.cfg := by cases e <;> rfl
@[simp] theorem State.raise_M (s : State) (e : ErrorFlag) : (s.raise e).M = s.M := by cases e <;> rfl
@[simp] theorem State.raise_msgLen (s : State) (e : ErrorFlag) : (s.raise e).msgLen = s.msgLen := by cases e <;> rfl
@[simp] theorem State.raise_msgBad (s : State) (e : ErrorFlag) : (s.raise e).msgBad = s.msgBad := by cases e <;> rfl
@[simp] theorem State.raise_msgOvf (s : State) (e : ErrorFlag) : (s.raise e).msgOvf = s.msgOvf := by cases e <;> rfl
@[simp] theorem State.raise_D (s : State) (e : ErrorFlag) : (s.raise e).D = s.D := by cases e <;> rfl
@[simp] theorem State.raise_divLen (s : State) (e : ErrorFlag) : (s.raise e).divLen = s.divLen := by cases e <;> rfl
@[simp] theorem State.raise_divBad (s : State) (e : ErrorFlag) : (s.raise e).divBad = s.divBad := by cases e <;> rfl
@[simp] theorem State.raise_divOvf (s : State) (e : ErrorFlag) : (s.raise e).divOvf = s.divOvf := by cases e <;> rfl
@[simp] theorem State.raise_W (s : State) (e : ErrorFlag) : (s.raise e).W = s.W := by cases e <;> rfl
@[simp] theorem State.raise_eng (s : State) (e : ErrorFlag) : (s.raise e).eng = s.eng := by cases e <;> rfl
@[simp] theorem State.raise_done (s : State) (e : ErrorFlag) : (s.raise e).done = s.done := by cases e <;> rfl
@[simp] theorem State.raise_result (s : State) (e : ErrorFlag) : (s.raise e).result = s.result := by cases e <;> rfl
@[simp] theorem State.raise_rlen (s : State) (e : ErrorFlag) : (s.raise e).rlen = s.rlen := by cases e <;> rfl
@[simp] theorem State.raise_steps (s : State) (e : ErrorFlag) : (s.raise e).steps = s.steps := by cases e <;> rfl
@[simp] theorem State.raise_ie (s : State) (e : ErrorFlag) : (s.raise e).ie = s.ie := by cases e <;> rfl
@[simp] theorem State.raise_inputs (s : State) (e : ErrorFlag) : (s.raise e).inputs = s.inputs := by cases e <;> rfl
@[simp] theorem State.raise_replies (s : State) (e : ErrorFlag) : (s.raise e).replies = s.replies := by cases e <;> rfl
@[simp] theorem State.raise_errInvDiv (s : State) (e : ErrorFlag) : (s.raise e).errInvDiv = (decide (e = .invDiv) || s.errInvDiv) := by cases e <;> rfl
@[simp] theorem State.raise_errInvBit (s : State) (e : ErrorFlag) : (s.raise e).errInvBit = (decide (e = .invBit) || s.errInvBit) := by cases e <;> rfl
@[simp] theorem State.raise_errCap (s : State) (e : ErrorFlag) : (s.raise e).errCap = (decide (e = .cap) || s.errCap) := by cases e <;> rfl
@[simp] theorem State.raise_errBusy (s : State) (e : ErrorFlag) : (s.raise e).errBusy = (decide (e = .busy) || s.errBusy) := by cases e <;> rfl
@[simp] theorem State.raise_errCmd (s : State) (e : ErrorFlag) : (s.raise e).errCmd = (decide (e = .cmd) || s.errCmd) := by cases e <;> rfl

/-! ### State.raiseIf -/

@[simp] theorem State.raiseIf_cfg (s : State) (c : Bool) (e : ErrorFlag) : (s.raiseIf c e).cfg = s.cfg := by
  cases c <;> simp [State.raiseIf]
@[simp] theorem State.raiseIf_M (s : State) (c : Bool) (e : ErrorFlag) : (s.raiseIf c e).M = s.M := by
  cases c <;> simp [State.raiseIf]
@[simp] theorem State.raiseIf_msgLen (s : State) (c : Bool) (e : ErrorFlag) : (s.raiseIf c e).msgLen = s.msgLen := by
  cases c <;> simp [State.raiseIf]
@[simp] theorem State.raiseIf_msgBad (s : State) (c : Bool) (e : ErrorFlag) : (s.raiseIf c e).msgBad = s.msgBad := by
  cases c <;> simp [State.raiseIf]
@[simp] theorem State.raiseIf_msgOvf (s : State) (c : Bool) (e : ErrorFlag) : (s.raiseIf c e).msgOvf = s.msgOvf := by
  cases c <;> simp [State.raiseIf]
@[simp] theorem State.raiseIf_D (s : State) (c : Bool) (e : ErrorFlag) : (s.raiseIf c e).D = s.D := by
  cases c <;> simp [State.raiseIf]
@[simp] theorem State.raiseIf_divLen (s : State) (c : Bool) (e : ErrorFlag) : (s.raiseIf c e).divLen = s.divLen := by
  cases c <;> simp [State.raiseIf]
@[simp] theorem State.raiseIf_divBad (s : State) (c : Bool) (e : ErrorFlag) : (s.raiseIf c e).divBad = s.divBad := by
  cases c <;> simp [State.raiseIf]
@[simp] theorem State.raiseIf_divOvf (s : State) (c : Bool) (e : ErrorFlag) : (s.raiseIf c e).divOvf = s.divOvf := by
  cases c <;> simp [State.raiseIf]
@[simp] theorem State.raiseIf_W (s : State) (c : Bool) (e : ErrorFlag) : (s.raiseIf c e).W = s.W := by
  cases c <;> simp [State.raiseIf]
@[simp] theorem State.raiseIf_eng (s : State) (c : Bool) (e : ErrorFlag) : (s.raiseIf c e).eng = s.eng := by
  cases c <;> simp [State.raiseIf]
@[simp] theorem State.raiseIf_done (s : State) (c : Bool) (e : ErrorFlag) : (s.raiseIf c e).done = s.done := by
  cases c <;> simp [State.raiseIf]
@[simp] theorem State.raiseIf_errInvDiv (s : State) (c : Bool) (e : ErrorFlag) : (s.raiseIf c e).errInvDiv = (c && decide (e = .invDiv) || s.errInvDiv) := by
  cases c <;> simp [State.raiseIf]
@[simp] theorem State.raiseIf_errInvBit (s : State) (c : Bool) (e : ErrorFlag) : (s.raiseIf c e).errInvBit = (c && decide (e = .invBit) || s.errInvBit) := by
  cases c <;> simp [State.raiseIf]
@[simp] theorem State.raiseIf_errCap (s : State) (c : Bool) (e : ErrorFlag) : (s.raiseIf c e).errCap = (c && decide (e = .cap) || s.errCap) := by
  cases c <;> simp [State.raiseIf]
@[simp] theorem State.raiseIf_errBusy (s : State) (c : Bool) (e : ErrorFlag) : (s.raiseIf c e).errBusy = (c && decide (e = .busy) || s.errBusy) := by
  cases c <;> simp [State.raiseIf]
@[simp] theorem State.raiseIf_errCmd (s : State) (c : Bool) (e : ErrorFlag) : (s.raiseIf c e).errCmd = (c && decide (e = .cmd) || s.errCmd) := by
  cases c <;> simp [State.raiseIf]
@[simp] theorem State.raiseIf_result (s : State) (c : Bool) (e : ErrorFlag) : (s.raiseIf c e).result = s.result := by
  cases c <;> simp [State.raiseIf]
@[simp] theorem State.raiseIf_rlen (s : State) (c : Bool) (e : ErrorFlag) : (s.raiseIf c e).rlen = s.rlen := by
  cases c <;> simp [State.raiseIf]
@[simp] theorem State.raiseIf_steps (s : State) (c : Bool) (e : ErrorFlag) : (s.raiseIf c e).steps = s.steps := by
  cases c <;> simp [State.raiseIf]
@[simp] theorem State.raiseIf_ie (s : State) (c : Bool) (e : ErrorFlag) : (s.raiseIf c e).ie = s.ie := by
  cases c <;> simp [State.raiseIf]
@[simp] theorem State.raiseIf_inputs (s : State) (c : Bool) (e : ErrorFlag) : (s.raiseIf c e).inputs = s.inputs := by
  cases c <;> simp [State.raiseIf]
@[simp] theorem State.raiseIf_replies (s : State) (c : Bool) (e : ErrorFlag) : (s.raiseIf c e).replies = s.replies := by
  cases c <;> simp [State.raiseIf]

end Sys2Proof.Machine
end

