-- ==== Sys2Proof/Laws/Ops.lean ====
section
/-!
SUPPORT. What each shared operation can do, said once: the provers cite these instead of unfolding the operations.
-/

namespace Sys2Proof.Machine

/-! ### The guard of the writes rejected while BUSY -/

theorem unlessBusy_run (s : State) (f : State → State) (h : s.eng = .run) : s.unlessBusy f = s.raise .busy := by
  simp [State.unlessBusy, h]

theorem unlessBusy_idle (s : State) (f : State → State) (h : s.eng = .idle) : s.unlessBusy f = f s := by
  simp [State.unlessBusy, h]

/-- A guarded write is rejected or performed, never both. -/
theorem unlessBusy_cases (s : State) (f : State → State) :
    (s.eng = .run ∧ s.unlessBusy f = s.raise .busy) ∨ (s.eng = .idle ∧ s.unlessBusy f = f s) := by
  cases h : s.eng
  · exact .inr ⟨rfl, unlessBusy_idle s f h⟩
  · exact .inl ⟨rfl, unlessBusy_run s f h⟩

/-! ### Pushes -/

/-- A push to a full message store sets the overflow flag, and the bad flag for an invalid symbol. -/
theorem appendMsg_full (s : State) (data : Word) (h : s.msgLen = s.cfg.msgCap) :
    s.appendMsg data = { s with msgBad := !symbolValid data || s.msgBad, msgOvf := true } := by
  cases hv : symbolValid data <;> simp [State.appendMsg, hv, h]

/-- A push to a message store with room appends the symbol's bit. -/
theorem appendMsg_room (s : State) (data : Word) (h : s.msgLen ≠ s.cfg.msgCap) :
    s.appendMsg data =
      { s with msgBad := !symbolValid data || s.msgBad, M := s.M ++ [symbolBit data], msgLen := s.msgLen + 1 } := by
  cases hv : symbolValid data <;> simp [State.appendMsg, hv, h]

/-- A push to a full divisor store sets the overflow flag, and the bad flag for an invalid symbol. -/
theorem appendDiv_full (s : State) (data : Word) (h : s.divLen = s.cfg.divCap) :
    s.appendDiv data = { s with divBad := !symbolValid data || s.divBad, divOvf := true } := by
  cases hv : symbolValid data <;> simp [State.appendDiv, hv, h]

/-- A push to a divisor store with room appends the symbol's bit. -/
theorem appendDiv_room (s : State) (data : Word) (h : s.divLen ≠ s.cfg.divCap) :
    s.appendDiv data =
      { s with divBad := !symbolValid data || s.divBad, D := s.D ++ [symbolBit data], divLen := s.divLen + 1 } := by
  cases hv : symbolValid data <;> simp [State.appendDiv, hv, h]

/-! ### START -/

/-- START's validation either fails, with its flags, or begins a computation. -/
theorem validateStart_cases (s : State) :
    (s.rejectsStart = true ∧ s.validateStart = s.failStart) ∨ (s.rejectsStart = false ∧ s.validateStart = s.beginRun) := by
  cases h : s.rejectsStart
  · exact .inr ⟨rfl, by simp [State.validateStart, h]⟩
  · exact .inl ⟨rfl, by simp [State.validateStart, h]⟩

/-- A START that validation lets pass has a divisor of length 2 or more with leading bit 1, and no input flag. -/
theorem rejectsStart_eq_false (s : State) :
    s.rejectsStart = false ↔
      (2 ≤ s.divLen ∧ s.D.head? = some true) ∧
      (s.msgBad = false ∧ s.divBad = false ∧ s.msgOvf = false ∧ s.divOvf = false) := by
  simp [State.rejectsStart, State.invalidDivisor, State.invalidBit, State.capacityExceeded]
  tauto

@[simp] theorem acceptStart_rejectsStart (s : State) : s.acceptStart.rejectsStart = s.rejectsStart := rfl

/-! ### The engine's choice -/

/-- An engine step that answers a next state: nothing while IDLE, else one of FINISH, PAD_FINISH and ITERATE by |W|. -/
theorem engineStep_cases {s t : State} (h : engineStep s = .next t) :
    (s.eng = .idle ∧ t = s) ∨
    (s.eng = .run ∧ s.engineInRange = true ∧
      ((s.W.length = s.width ∧ t = s.finish) ∨
       (s.W.length < s.width ∧ t = s.padFinish) ∨
       (s.width < s.W.length ∧ t = s.iterate))) := by
  unfold engineStep at h
  split at h
  · injection h with h
    exact .inl ⟨‹_›, h.symm⟩
  · split at h
    · injection h with h
      refine .inr ⟨‹_›, ‹_›, ?_⟩
      unfold State.engineRun at h
      split at h
      · exact .inl ⟨‹_›, h.symm⟩
      · split at h
        · exact .inr (.inl ⟨‹_›, h.symm⟩)
        · exact .inr (.inr ⟨by omega, h.symm⟩)
    · cases h

/-- The range check of an engine step. -/
theorem engineInRange_iff (s : State) :
    s.engineInRange = true ↔ 1 ≤ s.divLen ∧ s.divLen = s.D.length ∧ s.divLen ≤ 33 := by
  simp [State.engineInRange, and_assoc]

/-! ### The step -/

theorem step_of_nil {s : State} (h : s.inputs = []) : step s = engineStep s := by simp [step, nextStep, h]

theorem step_of_cons {s : State} {i : Input} {rest : List Input} (h : s.inputs = i :: rest) :
    step s = performInput i { s with inputs := rest } := by simp [step, nextStep, h]

/-- A step that answers a next state: an engine step with no input to come, or the next input performed. -/
theorem step_cases {s t : State} (h : step s = .next t) :
    (s.inputs = [] ∧ engineStep s = .next t) ∨
    (∃ i rest, s.inputs = i :: rest ∧ performInput i { s with inputs := rest } = .next t) := by
  cases hi : s.inputs with
  | nil => exact .inl ⟨rfl, by rw [← step_of_nil hi, h]⟩
  | cons i rest => exact .inr ⟨i, rest, rfl, by rw [← step_of_cons hi, h]⟩

/-- An input that answers a next state: an instruction performed, an engine step, or the reset event. -/
theorem performInput_cases {i : Input} {s t : State} (h : performInput i s = .next t) :
    (∃ j, i.isTransaction j ∧ exec j s = .next t) ∨
    (i = .engineTurn ∧ engineStep s = .next t) ∨
    (i = .reset ∧ t = s.resetEvent) := by
  cases i with
  | transaction k => exact .inl ⟨decodeKey k, rfl, h⟩
  | busAccess a =>
    cases hk : a.key with
    | none => simp [performInput, performBus, hk] at h
    | some k =>
      refine .inl ⟨decodeKey k, ⟨k, hk, rfl⟩, ?_⟩
      simpa [performInput, performBus, hk, performKey] using h
  | transactionInReset k => simp [performInput] at h
  | engineTurn => exact .inr (.inl ⟨rfl, h⟩)
  | reset => exact .inr (.inr ⟨rfl, by simpa [performInput] using h.symm⟩)

/-! ### Runs -/

theorem runSteps_zero (s : State) : runSteps 0 s = .next s := rfl

theorem core_step (s : State) : Sys2Proof.core.step s = step s := rfl

/-- One step more than k: the step, then k steps, unless it stops. -/
theorem runSteps_succ_eq (k : Nat) (s : State) :
    runSteps (k + 1) s = (step s).casesOn (runSteps k) .fault .refused := by
  refine (Host.Core.run.eq_2 Sys2Proof.core s k).trans ?_
  rw [core_step]
  cases step s <;> rfl

theorem runSteps_succ (k : Nat) {s t : State} (h : step s = .next t) : runSteps (k + 1) s = runSteps k t := by
  rw [runSteps_succ_eq, h]

/-- A run may be cut in two. -/
theorem runSteps_add (j k : Nat) {s t : State} (h : runSteps j s = .next t) : runSteps (j + k) s = runSteps k t := by
  induction j generalizing s with
  | zero =>
    injection h with h
    subst h
    rw [Nat.zero_add]
  | succ j ih =>
    rw [runSteps_succ_eq] at h
    cases hs : step s with
    | next u =>
      rw [hs] at h
      rw [Nat.add_right_comm, runSteps_succ (j + k) hs]
      exact ih h
    | fault r => rw [hs] at h; cases h
    | refused r => rw [hs] at h; cases h

end Sys2Proof.Machine
end

