-- ==== Sys2Proof/Laws/PerInstr.lean ====
section
/-!
SUPPORT. Per instruction: its key fits its own row of the opcode table (30_encoding.md R80, R85).
-/

namespace Sys2Proof.Laws.RowFits

/-- The key of a well-formed instruction fits a row of the opcode table that carries the instruction's mnemonic. -/
def Statement (i : Instr) : Prop :=
  i.wf = true → ∃ r ∈ opcodeRows, r.mnemonic = i.mnemonic ∧ r.fits (encode i) = true

/-- A read fits the row of its index. -/
theorem read_fits (m : String) (p : Key) (idx : Index) (h : p = mkKey false idx 0#32) :
    (OpcodeRow.mk m p 0x1F00000000#37).fits (readKey idx) = true := by
  subst h
  exact (row_fits_mkKey m false true idx 0xF#4 0#32 0#32 false idx 0#32).mpr ⟨rfl, BitVec.and_allOnes, rfl⟩

/-- A write fits the row of its index, whatever its DATA. -/
theorem write_fits (m : String) (p : Key) (idx : Index) (data : Word) (h : p = mkKey true idx 0#32) :
    (OpcodeRow.mk m p 0x1F00000000#37).fits (writeKey idx data) = true := by
  subst h
  exact (row_fits_mkKey m true true idx 0xF#4 0#32 0#32 true idx data).mpr ⟨rfl, BitVec.and_allOnes, BitVec.and_zero⟩

/-- An index of 12 to 15 has its two upper bits set. -/
theorem reservedIndex_and (idx : Index) (h : reservedIndex idx = true) : idx &&& 0xC#4 = 0xC#4 := by
  revert idx
  decide

theorem rdId : Statement (.rdId) := fun _ =>
  ⟨⟨"RD_ID", 0x0000000000#37, 0x1F00000000#37⟩, by decide, rfl, read_fits _ _ 0#4 rfl⟩

theorem rdCfg : Statement (.rdCfg) := fun _ =>
  ⟨⟨"RD_CFG", 0x0100000000#37, 0x1F00000000#37⟩, by decide, rfl, read_fits _ _ 1#4 rfl⟩

theorem rdCtrl : Statement (.rdCtrl) := fun _ =>
  ⟨⟨"RD_CTRL", 0x0200000000#37, 0x1F00000000#37⟩, by decide, rfl, read_fits _ _ 2#4 rfl⟩

theorem rdCmd : Statement (.rdCmd) := fun _ =>
  ⟨⟨"RD_CMD", 0x0300000000#37, 0x1F00000000#37⟩, by decide, rfl, read_fits _ _ 3#4 rfl⟩

theorem rdStatus : Statement (.rdStatus) := fun _ =>
  ⟨⟨"RD_STATUS", 0x0400000000#37, 0x1F00000000#37⟩, by decide, rfl, read_fits _ _ 4#4 rfl⟩

theorem rdDivPush : Statement (.rdDivPush) := fun _ =>
  ⟨⟨"RD_DIV_PUSH", 0x0500000000#37, 0x1F00000000#37⟩, by decide, rfl, read_fits _ _ 5#4 rfl⟩

theorem rdMsgPush : Statement (.rdMsgPush) := fun _ =>
  ⟨⟨"RD_MSG_PUSH", 0x0600000000#37, 0x1F00000000#37⟩, by decide, rfl, read_fits _ _ 6#4 rfl⟩

theorem rdDivLen : Statement (.rdDivLen) := fun _ =>
  ⟨⟨"RD_DIV_LEN", 0x0700000000#37, 0x1F00000000#37⟩, by decide, rfl, read_fits _ _ 7#4 rfl⟩

theorem rdMsgLen : Statement (.rdMsgLen) := fun _ =>
  ⟨⟨"RD_MSG_LEN", 0x0800000000#37, 0x1F00000000#37⟩, by decide, rfl, read_fits _ _ 8#4 rfl⟩

theorem rdResult : Statement (.rdResult) := fun _ =>
  ⟨⟨"RD_RESULT", 0x0900000000#37, 0x1F00000000#37⟩, by decide, rfl, read_fits _ _ 9#4 rfl⟩

theorem rdRlen : Statement (.rdRlen) := fun _ =>
  ⟨⟨"RD_RLEN", 0x0A00000000#37, 0x1F00000000#37⟩, by decide, rfl, read_fits _ _ 10#4 rfl⟩

theorem rdSteps : Statement (.rdSteps) := fun _ =>
  ⟨⟨"RD_STEPS", 0x0B00000000#37, 0x1F00000000#37⟩, by decide, rfl, read_fits _ _ 11#4 rfl⟩

theorem wrId (data : Word) : Statement (.wrId data) := fun _ =>
  ⟨⟨"WR_ID", 0x1000000000#37, 0x1F00000000#37⟩, by decide, rfl, write_fits _ _ 0#4 data rfl⟩

theorem wrCfg (data : Word) : Statement (.wrCfg data) := fun _ =>
  ⟨⟨"WR_CFG", 0x1100000000#37, 0x1F00000000#37⟩, by decide, rfl, write_fits _ _ 1#4 data rfl⟩

theorem wrCtrl (data : Word) : Statement (.wrCtrl data) := fun _ =>
  ⟨⟨"WR_CTRL", 0x1200000000#37, 0x1F00000000#37⟩, by decide, rfl, write_fits _ _ 2#4 data rfl⟩

theorem wrStatus (data : Word) : Statement (.wrStatus data) := fun _ =>
  ⟨⟨"WR_STATUS", 0x1400000000#37, 0x1F00000000#37⟩, by decide, rfl, write_fits _ _ 4#4 data rfl⟩

theorem wrDivPush (data : Word) : Statement (.wrDivPush data) := fun _ =>
  ⟨⟨"WR_DIV_PUSH", 0x1500000000#37, 0x1F00000000#37⟩, by decide, rfl, write_fits _ _ 5#4 data rfl⟩

theorem wrMsgPush (data : Word) : Statement (.wrMsgPush data) := fun _ =>
  ⟨⟨"WR_MSG_PUSH", 0x1600000000#37, 0x1F00000000#37⟩, by decide, rfl, write_fits _ _ 6#4 data rfl⟩

theorem wrDivLen (data : Word) : Statement (.wrDivLen data) := fun _ =>
  ⟨⟨"WR_DIV_LEN", 0x1700000000#37, 0x1F00000000#37⟩, by decide, rfl, write_fits _ _ 7#4 data rfl⟩

theorem wrMsgLen (data : Word) : Statement (.wrMsgLen data) := fun _ =>
  ⟨⟨"WR_MSG_LEN", 0x1800000000#37, 0x1F00000000#37⟩, by decide, rfl, write_fits _ _ 8#4 data rfl⟩

theorem wrResult (data : Word) : Statement (.wrResult data) := fun _ =>
  ⟨⟨"WR_RESULT", 0x1900000000#37, 0x1F00000000#37⟩, by decide, rfl, write_fits _ _ 9#4 data rfl⟩

theorem wrRlen (data : Word) : Statement (.wrRlen data) := fun _ =>
  ⟨⟨"WR_RLEN", 0x1A00000000#37, 0x1F00000000#37⟩, by decide, rfl, write_fits _ _ 10#4 data rfl⟩

theorem wrSteps (data : Word) : Statement (.wrSteps data) := fun _ =>
  ⟨⟨"WR_STEPS", 0x1B00000000#37, 0x1F00000000#37⟩, by decide, rfl, write_fits _ _ 11#4 data rfl⟩

theorem rdRsvd (idx : Index) : Statement (.rdRsvd idx) := fun h =>
  ⟨⟨"RD_RSVD", 0x0C00000000#37, 0x1C00000000#37⟩, by decide, rfl,
    (row_fits_mkKey _ false true 0xC#4 0xC#4 0#32 0#32 false idx 0#32).mpr ⟨rfl, reservedIndex_and idx h, rfl⟩⟩

theorem wrRsvd (idx : Index) (data : Word) : Statement (.wrRsvd idx data) := fun h =>
  ⟨⟨"WR_RSVD", 0x1C00000000#37, 0x1C00000000#37⟩, by decide, rfl,
    (row_fits_mkKey _ true true 0xC#4 0xC#4 0#32 0#32 true idx data).mpr
      ⟨rfl, reservedIndex_and idx h, BitVec.and_zero⟩⟩

theorem nop : Statement (.nop) := fun _ => ⟨⟨"NOP", 0x1300000000#37, 0x1FFFFFFFFF#37⟩, by decide, rfl, by decide⟩

theorem clear : Statement (.clear) := fun _ => ⟨⟨"CLEAR", 0x1300000001#37, 0x1FFFFFFFFF#37⟩, by decide, rfl, by decide⟩

theorem start : Statement (.start) := fun _ => ⟨⟨"START", 0x1300000002#37, 0x1FFFFFFFFF#37⟩, by decide, rfl, by decide⟩

theorem clrMsg : Statement (.clrMsg) := fun _ => ⟨⟨"CLR_MSG", 0x1300000003#37, 0x1FFFFFFFFF#37⟩, by decide, rfl, by decide⟩

theorem clrDiv : Statement (.clrDiv) := fun _ => ⟨⟨"CLR_DIV", 0x1300000004#37, 0x1FFFFFFFFF#37⟩, by decide, rfl, by decide⟩

theorem ack : Statement (.ack) := fun _ => ⟨⟨"ACK", 0x1300000005#37, 0x1FFFFFFFFF#37⟩, by decide, rfl, by decide⟩

theorem cmdRsvd (word : Word) : Statement (.cmdRsvd word) := fun _ =>
  ⟨⟨"CMD_RSVD", 0x1300000000#37, 0x1F00000000#37⟩, by decide, rfl, write_fits _ _ 3#4 word rfl⟩

end Sys2Proof.Laws.RowFits
end

