-- ==== Sys2Proof/Laws/Poly.lean ====
section
/-!
SUPPORT. The polynomial of a sequence (00_scope.md R12), element by element and part by part.
-/

namespace Sys2Proof.Machine

open Polynomial

@[simp] theorem poly_nil : poly [] = 0 := by simp [poly]

/-- The first element is the coefficient of the highest power. -/
theorem poly_cons (b : Bool) (S : List Bool) : poly (b :: S) = (if b then X ^ S.length else 0) + poly S := by
  unfold poly
  rw [List.length_cons, Finset.sum_range_succ']
  rw [add_comm]
  congr 1
  refine Finset.sum_congr rfl fun i _ => ?_
  simp [Nat.sub_sub, add_comm 1 i]

/-- Appending a sequence shifts the one before it. -/
theorem poly_append (S T : List Bool) : poly (S ++ T) = poly S * X ^ T.length + poly T := by
  induction S with
  | nil => simp
  | cons b S ih =>
    rw [List.cons_append, poly_cons, poly_cons, ih]
    cases b
    · simp
    · simp only [if_true, List.length_append, pow_add]
      ring

@[simp] theorem poly_replicate_false (k : Nat) : poly (List.replicate k false) = 0 := by
  induction k with
  | zero => simp
  | succ k ih => rw [List.replicate_succ, poly_cons, ih]; simp

/-- Adding sequences of one length element by element adds their polynomials (00_scope.md R13). -/
theorem poly_zipWith_xor (S T : List Bool) (h : S.length = T.length) :
    poly (List.zipWith (fun a b => a ^^ b) S T) = poly S + poly T := by
  induction S generalizing T with
  | nil => cases T <;> simp_all
  | cons a S ih =>
    cases T with
    | nil => simp at h
    | cons b T =>
      have hl : S.length = T.length := by simpa using h
      have two : (2 : (ZMod 2)[X]) = 0 := by
        have : (2 : ZMod 2) = 0 := rfl
        rw [show (2 : (ZMod 2)[X]) = C 2 from (map_ofNat C 2).symm, this, C_0]
      rw [List.zipWith_cons_cons, poly_cons, poly_cons, poly_cons, ih T hl, List.length_zipWith, ← hl, Nat.min_self]
      cases a <;> cases b <;> simp
      · ring
      · ring
      · have h0 : (X : (ZMod 2)[X]) ^ S.length + X ^ S.length = 0 := by rw [← two_mul, two, zero_mul]
        linear_combination -h0

end Sys2Proof.Machine
end

