-- ==== Sys2Proof/Tests/Slice0.lean ====
section
/-!
SUPPORT. The model's own tests. Expected values come from spec/95_test_vectors.md (the vector is named in each comment) or are
worked out by hand from the rule named; keys are written out from 30_encoding.md R80, R83 and R84.
-/

namespace Sys2Proof.Tests

open Sys2Proof.Machine

/-! ### Helpers -/

/-- The next state of an outcome. -/
def after (o : Out) : Option State :=
  match o with
  | .next s => some s
  | .fault _ => none
  | .refused _ => none

/-- The refusal of an outcome. -/
def refusal (o : Out) : Option Refusal :=
  match o with
  | .next _ => none
  | .fault _ => none
  | .refused r => some r

/-- A bit sequence written with numbers, first element first. -/
def bs (l : List Nat) : List Bool := l.map (· == 1)

/-- The state after reset with a divisor and a message stored. -/
def stored (d m : List Nat) : State :=
  { State.reset with D := bs d, divLen := d.length, M := bs m, msgLen := m.length }

/-- The running state of 95 section 2.2: D = 11, M = 0000, two engine steps taken, W = 0000, STEPS = 2. -/
def running : State := { stored [1, 1] [0, 0, 0, 0] with eng := .run, W := bs [0, 0, 0, 0], steps := 2#32 }

/-- A running state with the divisor d, the message m and the buffer w. -/
def runningOn (d m w : List Nat) : State := { stored d m with eng := .run, W := bs w }

/-- A finished state: D = 11, M = 1, RESULT = 1, RLEN = 1, STEPS = 1 (95 S4). -/
def finished : State := { stored [1, 1] [1] with done := true, result := 1#32, rlen := 1#6, steps := 1#32 }

/-- A block with small capacities, its stores full. -/
def full : State := { stored [1, 0, 1] [1, 1] with cfg := ⟨3, 2⟩ }

/-- The value a read returned. -/
def value (o : Out) : Option Word := (after o).bind fun t => t.replies.getLast?

/-! ### Well-formedness: an ill-formed term for each check -/

theorem test_wf_rdRsvd_index_11_refused : (Instr.rdRsvd 11#4).wf = false := by decide
theorem test_wf_wrRsvd_index_3_refused : (Instr.wrRsvd 3#4 0#32).wf = false := by decide
theorem test_wf_cmdRsvd_word_5_refused : (Instr.cmdRsvd 5#32).wf = false := by decide
theorem test_wf_rdRsvd_index_12_accepted : (Instr.rdRsvd 12#4).wf = true := by decide
theorem test_wf_cmdRsvd_word_6_accepted : (Instr.cmdRsvd 6#32).wf = true := by decide

/-! ### Decoding: one word per constructor, written out from R80, R83 and R84 -/

theorem test_decode_rdId : decodeTableWord 40 0x0000000000 = some .rdId := by decide
theorem test_decode_rdCfg : decodeTableWord 40 0x0100000000 = some .rdCfg := by decide
theorem test_decode_rdCtrl : decodeTableWord 40 0x0200000000 = some .rdCtrl := by decide
theorem test_decode_rdCmd : decodeTableWord 40 0x0300000000 = some .rdCmd := by decide
theorem test_decode_rdStatus : decodeTableWord 40 0x0400000000 = some .rdStatus := by decide
theorem test_decode_rdDivPush : decodeTableWord 40 0x0500000000 = some .rdDivPush := by decide
theorem test_decode_rdMsgPush : decodeTableWord 40 0x0600000000 = some .rdMsgPush := by decide
theorem test_decode_rdDivLen : decodeTableWord 40 0x0700000000 = some .rdDivLen := by decide
theorem test_decode_rdMsgLen : decodeTableWord 40 0x0800000000 = some .rdMsgLen := by decide
theorem test_decode_rdResult : decodeTableWord 40 0x0900000000 = some .rdResult := by decide
theorem test_decode_rdRlen : decodeTableWord 40 0x0A00000000 = some .rdRlen := by decide
theorem test_decode_rdSteps : decodeTableWord 40 0x0B00000000 = some .rdSteps := by decide
theorem test_decode_wrId : decodeTableWord 40 0x1000000007 = some (.wrId 7#32) := by decide
theorem test_decode_wrCfg : decodeTableWord 40 0x11FFFFFFFF = some (.wrCfg 0xFFFFFFFF#32) := by decide
theorem test_decode_wrCtrl : decodeTableWord 40 0x1200000001 = some (.wrCtrl 1#32) := by decide
theorem test_decode_wrStatus : decodeTableWord 40 0x14FFFFFFFF = some (.wrStatus 0xFFFFFFFF#32) := by decide
theorem test_decode_wrDivPush : decodeTableWord 40 0x1580000001 = some (.wrDivPush 0x80000001#32) := by decide
theorem test_decode_wrMsgPush : decodeTableWord 40 0x1600000003 = some (.wrMsgPush 3#32) := by decide
theorem test_decode_wrDivLen : decodeTableWord 40 0x1700000005 = some (.wrDivLen 5#32) := by decide
theorem test_decode_wrMsgLen : decodeTableWord 40 0x1800000005 = some (.wrMsgLen 5#32) := by decide
theorem test_decode_wrResult : decodeTableWord 40 0x1900000007 = some (.wrResult 7#32) := by decide
theorem test_decode_wrRlen : decodeTableWord 40 0x1A00000001 = some (.wrRlen 1#32) := by decide
theorem test_decode_wrSteps : decodeTableWord 40 0x1B00000000 = some (.wrSteps 0#32) := by decide
theorem test_decode_rdRsvd : decodeTableWord 40 0x0E00000000 = some (.rdRsvd 14#4) := by decide
theorem test_decode_wrRsvd : decodeTableWord 40 0x1F00000001 = some (.wrRsvd 15#4 1#32) := by decide
theorem test_decode_nop : decodeTableWord 40 0x1300000000 = some .nop := by decide
theorem test_decode_clear : decodeTableWord 40 0x1300000001 = some .clear := by decide
theorem test_decode_start : decodeTableWord 40 0x1300000002 = some .start := by decide
theorem test_decode_clrMsg : decodeTableWord 40 0x1300000003 = some .clrMsg := by decide
theorem test_decode_clrDiv : decodeTableWord 40 0x1300000004 = some .clrDiv := by decide
theorem test_decode_ack : decodeTableWord 40 0x1300000005 = some .ack := by decide
theorem test_decode_cmdRsvd : decodeTableWord 40 0x1300000102 = some (.cmdRsvd 0x102#32) := by decide
theorem test_decode_read_ignores_data : decodeTableWord 40 0x04DEADBEEF = some .rdStatus := by decide
theorem test_decode_beyond_37_bits_rejected : decodeTableWord 40 0x2300000002 = none := by decide
theorem test_decode_rejects_by_name : decode 0x2000000000 = .error (.notAKey 0x2000000000) := by rfl

/-! ### Register transactions (95 section 2.1) -/

-- HV1
theorem test_rdId : value (exec .rdId .reset) = some 0x43524344#32 := by decide
-- HV3, the second value with DIV_CAP = 17 and MSG_CAP = 64
theorem test_rdCfg : value (exec .rdCfg .reset) = some 0x04000021#32 := by decide
theorem test_rdCfg_other_parameters : value (exec .rdCfg (.resetWith ⟨17, 64⟩)) = some 0x00400011#32 := by decide
-- R104
theorem test_rdCtrl : value (exec .rdCtrl { State.reset with ie := true }) = some 1#32 := by decide
-- HV8, HV11, HV25
theorem test_rdCmd : value (exec .rdCmd running) = some 0#32 := by decide
theorem test_rdDivPush : value (exec .rdDivPush running) = some 0#32 := by decide
theorem test_rdMsgPush : value (exec .rdMsgPush running) = some 0#32 := by decide
theorem test_rdRsvd : value (exec (.rdRsvd 13#4) running) = some 0#32 := by decide
-- the STATUS of 95 section 2.2's start state, and of XV3
theorem test_rdStatus_running : value (exec .rdStatus running) = some 0x00000001#32 := by decide
theorem test_rdStatus_busy_irq : value (exec .rdStatus { running with ie := true, errBusy := true }) = some 0x000000A1#32 := by decide
-- R113, R115: P2's lengths
theorem test_rdDivLen : value (exec .rdDivLen (stored [1, 0, 1] [])) = some 3#32 := by decide
theorem test_rdMsgLen : value (exec .rdMsgLen (stored [] [1, 1, 0, 1, 0, 1, 0, 0, 0])) = some 9#32 := by decide
-- S4
theorem test_rdResult : value (exec .rdResult finished) = some 1#32 := by decide
theorem test_rdRlen : value (exec .rdRlen { finished with rlen := 32#6 }) = some 32#32 := by decide
-- BV9
theorem test_rdSteps : value (exec .rdSteps running) = some 2#32 := by decide
-- R67: a read changes nothing but the host's record
theorem test_read_has_no_side_effect : after (exec .rdStatus running) = some (running.reply 1#32) := by decide
-- HV2, HV4, HV10, HV20, HV21, HV22, HV23, HV24, HV26
theorem test_wrId : after (exec (.wrId 0#32) running) = some running := by decide
theorem test_wrCfg : after (exec (.wrCfg 0xFFFFFFFF#32) finished) = some finished := by decide
theorem test_wrStatus : after (exec (.wrStatus 0xFFFFFFFF#32) finished) = some finished := by decide
theorem test_wrDivLen : after (exec (.wrDivLen 5#32) finished) = some finished := by decide
theorem test_wrMsgLen : after (exec (.wrMsgLen 5#32) finished) = some finished := by decide
theorem test_wrResult : after (exec (.wrResult 7#32) finished) = some finished := by decide
theorem test_wrRlen : after (exec (.wrRlen 7#32) finished) = some finished := by decide
theorem test_wrSteps : after (exec (.wrSteps 0#32) finished) = some finished := by decide
theorem test_wrRsvd : after (exec (.wrRsvd 15#4 0xFFFFFFFF#32) running) = some running := by decide
-- HV6, HV7
theorem test_wrCtrl_sets : (after (exec (.wrCtrl 0xFFFFFFFF#32) .reset)).map (·.ie) = some true := by decide
theorem test_wrCtrl_clears : (after (exec (.wrCtrl 2#32) { State.reset with ie := true })).map (·.ie) = some false := by decide
-- HV13
theorem test_wrDivPush_invalid : (after (exec (.wrDivPush 0x80000001#32) (stored [1] []))).map (fun t => (t.D, t.divLen, t.status))
    = some (bs [1, 0], 2, 0x00000200#32) := by decide
-- HV18, with DIV_CAP = 3
theorem test_wrDivPush_full : (after (exec (.wrDivPush 2#32) full)).map (fun t => (t.D, t.divLen, t.status))
    = some (bs [1, 0, 1], 3, 0x00000A00#32) := by decide
-- R112's example: PUSHM 1,2,0
theorem test_wrMsgPush_order : (after (exec (.wrMsgPush 1#32) (stored [] [0]))).map (fun t => (t.M, t.msgLen))
    = some (bs [0, 1], 2) := by decide
-- BV1
theorem test_wrMsgPush_busy : (after (exec (.wrMsgPush 1#32) running)).map (fun t => (t.msgLen, t.status))
    = some (4, 0x00000021#32) := by decide

/-! ### Commands (95 section 2.2) -/

-- CV1
theorem test_nop : after (exec .nop running) = some running := by decide
-- BV8, CV22
theorem test_clear_aborts : after (exec .clear running) = some .reset := by decide
theorem test_clear_keeps_ie : (after (exec .clear { finished with ie := true })).map (fun t => (t.ie, t.status, t.divLen))
    = some (true, 0#32, 0) := by decide
-- R133's example
theorem test_start : (after (exec .start (stored [1, 0, 0, 1] [1, 1, 0, 1, 0, 1, 0, 0, 0]))).map (fun t => (t.eng, t.W))
    = some (.run, bs [1, 1, 0, 1, 0, 1, 0, 0, 0, 0, 0, 0]) := by decide
-- CV8: D = 2,0,1 (stored 001), M = 1
theorem test_start_two_errors : (after (exec .start { stored [0, 0, 1] [1] with divBad := true })).map (·.status)
    = some 0x0000020C#32 := by decide
-- CV14, CV15
theorem test_clrMsg : (after (exec .clrMsg finished)).map (fun t => (t.msgLen, t.divLen, t.result, t.status))
    = some (0, 2, 1#32, 0x00000002#32) := by decide
theorem test_clrDiv : (after (exec .clrDiv finished)).map (fun t => (t.msgLen, t.divLen, t.result, t.status))
    = some (1, 0, 1#32, 0x00000002#32) := by decide
-- BV3, BV4
theorem test_clrMsg_busy : after (exec .clrMsg running) = some { running with errBusy := true } := by decide
theorem test_clrDiv_busy : after (exec .clrDiv running) = some { running with errBusy := true } := by decide
-- CV18
theorem test_ack : (after (exec .ack { finished with ie := true })).map (fun t => (t.status, t.result, t.rlen))
    = some (0#32, 1#32, 1#6) := by decide
-- CV21
theorem test_cmdRsvd : (after (exec (.cmdRsvd 6#32) { State.reset with ie := true })).map (·.status)
    = some 0x000000C0#32 := by decide

/-! ### Engine steps (95 section 2.3) -/

-- EV1 step 1
theorem test_iterate : (after (engineStep (runningOn [1, 0, 0, 1] [] [1, 1, 0, 1, 0, 1, 0, 0, 0, 0, 0, 0]))).map (fun t => (t.W, t.steps))
    = some (bs [1, 0, 0, 0, 1, 0, 0, 0, 0, 0, 0], 1#32) := by decide
-- EV18 step 1: an all-zero window drops r bits, not n
theorem test_iterate_all_zero_window : (after (engineStep (runningOn [1, 0, 1, 1] [] [1, 0, 1, 1, 0, 0, 0]))).map (·.W)
    = some (bs [0, 0, 0, 0]) := by decide
-- EV6 step 1: k = 0
theorem test_iterate_zero_drop : (after (engineStep (runningOn [1, 1] [] [0, 1, 0]))).map (·.W) = some (bs [1, 0, 0]) := by decide
-- EV2's end
theorem test_finish : (after (engineStep (runningOn [1, 0, 0, 1, 1] [] [1, 1, 1, 0]))).map (fun t => (t.result, t.rlen, t.done, t.eng, t.W))
    = some (0x0000000E#32, 4#6, true, .idle, []) := by decide
-- EV5's end: a pad after k = 2 < r
theorem test_pad_finish : (after (engineStep (runningOn [1, 0, 0, 1] [] [1, 1]))).map (fun t => (t.result, t.rlen, t.steps))
    = some (0x00000003#32, 3#6, 0#32) := by decide
-- R150
theorem test_idle_engine : after (engineStep finished) = some finished := by decide

/-! ### The step and its agents -/

theorem test_step_from_reset : after (step (State.reset.withFetchWord 40 0x1200000001)) = some { State.reset with ie := true } := by decide
theorem test_step_runs_engine_alone : (after (step running)).map (·.steps) = some 3#32 := by decide
-- RV2
theorem test_reset_event : after (step { running with ie := true, inputs := [.reset] }) = some .reset := by decide
-- R64: register 2 (CTRL) stands at byte offset 8
theorem test_bus_word : (after (step { State.reset with inputs := [.busAccess ⟨true, 8, 4, 1#32⟩] })).map (·.ie) = some true := by decide
theorem test_bus_halfword_refused :
    refusal (step { State.reset with inputs := [.busAccess ⟨true, 8, 2, 1#32⟩] }) = some .notAWordTransaction := by decide
theorem test_transaction_in_reset_refused :
    refusal (step { State.reset with inputs := [.transactionInReset 0#37] }) = some .transactionDuringReset := by decide

/-! ### Witnesses: concrete states that meet the hypotheses of the statements in Certificates/Slice0/Obligations.lean -/

/-- A running state whose invariants all hold: running. -/
theorem running_inv : running.Inv ∧ running.Progress ∧ running.ResultFits ∧ running.eng = .run :=
  ⟨by decide, by decide, by decide, by decide⟩

/-- A valid idle state with a START to come. -/
def ready : State := State.loaded ⟨33, 1024⟩ (bs [1, 1]) (bs [1, 0, 0, 1])

theorem ready_inv : ready.Inv ∧ ready.Progress ∧ ready.eng = .idle ∧ ready.rejectsStart = false :=
  ⟨by decide, by decide, by decide, by decide⟩

/-- A running state with an empty message: its buffer is all zeros. -/
def emptyRun : State := runningOn [1, 0, 1] [] [0, 0]

theorem emptyRun_value : emptyRun.ValueOk := fun _ => by
  have h1 : poly emptyRun.W = 0 := poly_replicate_false 2
  have h2 : poly emptyRun.M = 0 := poly_nil
  rw [h1, h2]
  simp

theorem witness_DecodeOfEncodeIsTheInstruction :
    (Instr.rdRsvd 12#4).wf = true ∧ (Instr.wrRsvd 15#4 7#32).wf = true ∧ (Instr.cmdRsvd 6#32).wf = true ∧ Instr.start.wf = true := by
  decide

theorem witness_FirstFittingRowNamesTheInstruction :
    (OpcodeRow.mk "START" 0x1300000002#37 0x1FFFFFFFFF#37) ∈ exactRows ∧
    (OpcodeRow.mk "START" 0x1300000002#37 0x1FFFFFFFFF#37).fits 0x1300000002#37 = true ∧
    reservedCommandRow.fits 0x1300000002#37 = true := by decide

theorem witness_DropAndPadKeepThePolynomial :
    false ∈ (bs [0, 1]).take (leadingZeroScan 1 (bs [0, 1])) := by decide

theorem witness_StepRunsTheDecodedTransaction :
    ready.inputs = .transaction (commandKey 2#32) :: [] ∧ decodeTableWord 40 0x1300000002 = some .start := by decide

theorem witness_EngineTurnIsAnEngineStep :
    ({ running with inputs := [.engineTurn] } : State).inputs = .engineTurn :: [] ∧ running.inputs = [] := by decide

theorem witness_ResetSetsEveryElement :
    ({ running with inputs := [.reset] } : State).inputs = .reset :: [] ∧
    ({ running with inputs := [.transactionInReset 0#37] } : State).inputs = .transactionInReset 0#37 :: [] := by decide

theorem witness_ByteAccessIsItsWordOrRefused :
    ({ running with inputs := [.busAccess ⟨true, 60, 4, 1#32⟩] } : State).inputs =
      .busAccess ⟨true, 4 * (15#4).toNat, 4, 1#32⟩ :: [] ∧
    ((BusAccess.mk true 60 2 1#32).size ≠ 4 ∧ (BusAccess.mk true 61 4 1#32).offset % 4 ≠ 0 ∧
      64 ≤ (BusAccess.mk true 64 4 1#32).offset) := by decide

theorem witness_ReadsHaveNoSideEffect : keyWe 0x0F00000000#37 = false := by decide

theorem witness_ReadKeysFitTheirRows :
    (0x0000000000#37 : Key) &&& 0x1F00000000#37 = 0x0000000000#37 ∧ (0x03DEADBEEF#37 : Key) &&& 0x1F00000000#37 = 0x0300000000#37 ∧
    (0x0F00000000#37 : Key) &&& 0x1C00000000#37 = 0x0C00000000#37 ∧ (0x0400000000#37 : Key) &&& 0x1F00000000#37 = 0x0400000000#37 ∧
    (0x0B00000000#37 : Key) &&& 0x1F00000000#37 = 0x0B00000000#37 := by decide

theorem witness_WriteKeysFitTheirRows :
    (0x10FFFFFFFF#37 : Key) &&& 0x1F00000000#37 = 0x1000000000#37 ∧ (0x1C00000001#37 : Key) &&& 0x1C00000000#37 = 0x1C00000000#37 ∧
    (0x1300000000#37 : Key) &&& 0x1FFFFFFFFF#37 = 0x1300000000#37 ∧ (0x13FFFFFFFF#37 : Key) &&& 0x1F00000000#37 = 0x1300000000#37 := by
  decide

theorem witness_RegisterReadsReturnTheirFields : State.reset.cfg.Legal ∧ Config.Legal ⟨2, 65535⟩ := by decide

theorem witness_PushesWhileIdle :
    full.eng = .idle ∧ full.divLen = full.cfg.divCap ∧ full.msgLen = full.cfg.msgCap ∧
    ready.eng = .idle ∧ ready.divLen ≠ ready.cfg.divCap ∧ ready.msgLen ≠ ready.cfg.msgCap := by decide

theorem witness_BusyWritesAreRejected : running.eng = .run ∧ (∃ data, Instr.wrDivPush 1#32 = .wrDivPush data) :=
  ⟨rfl, 1#32, rfl⟩

theorem witness_ClearEmptiesTheBlock : after (engineStep running) = some running.iterate := by decide

theorem witness_AckClearsDoneAndErrors : running.Inv ∧ running.eng = .run := by decide

theorem witness_StoreClearsEmptyTheirStore : finished.eng = .idle ∧ running.eng = .run := by decide

theorem witness_ReservedCommandSetsErrCmd :
    (0x1300000006#37 : Key) &&& 0x1F00000000#37 = 0x1300000000#37 ∧ 6 ≤ (keyData 0x1300000006#37).toNat ∧
    ({ running with ie := true } : State).ie = true := by decide

theorem witness_ValidStartBeginsARun :
    (stored [1, 1] []).eng = .idle ∧ 2 ≤ (stored [1, 1] []).divLen ∧ (stored [1, 1] []).D.head? = some true ∧
    (stored [1, 1] []).msgBad = false ∧ (stored [1, 1] []).divBad = false ∧ (stored [1, 1] []).msgOvf = false ∧
    (stored [1, 1] []).divOvf = false := by decide

theorem witness_InvalidStartReportsEveryCondition :
    (stored [1] []).eng = .idle ∧ (true = true ↔ (stored [1] []).divLen < 2 ∨ (stored [1] []).D.head? ≠ some true) ∧
    (false = true ↔ (stored [1] []).msgBad = true ∨ (stored [1] []).divBad = true) ∧
    (false = true ↔ (stored [1] []).msgOvf = true ∨ (stored [1] []).divOvf = true) ∧ (true || false || false) = true := by decide

theorem witness_ErrorFlagsRiseOnlyAtTheirCause :
    (after (step ((stored [0, 0, 1] [1]).present (commandKey 2#32)))).map (·.errInvDiv) = some true ∧
    (after (step (({ stored [1, 1] [0] with msgBad := true } : State).present (commandKey 2#32)))).map (·.errInvBit) = some true ∧
    (after (step (({ stored [1, 1] [0] with msgOvf := true } : State).present (commandKey 2#32)))).map (·.errCap) = some true ∧
    (after (step (running.present (commandKey 2#32)))).map (·.errBusy) = some true ∧
    (after (step (running.present (commandKey 6#32)))).map (·.errCmd) = some true := by decide

theorem witness_IdleEngineHasNoStep : finished.eng = .idle := by decide

/-- At the boundary |W| = n of ITERATE. -/
theorem witness_IterateXorsScansAndDrops :
    (runningOn [1, 0, 1] [] [1, 0, 1]).eng = .run ∧ 1 ≤ (runningOn [1, 0, 1] [] [1, 0, 1]).divLen ∧
    (runningOn [1, 0, 1] [] [1, 0, 1]).divLen = (runningOn [1, 0, 1] [] [1, 0, 1]).D.length ∧
    (runningOn [1, 0, 1] [] [1, 0, 1]).divLen ≤ 33 ∧
    (runningOn [1, 0, 1] [] [1, 0, 1]).divLen ≤ (runningOn [1, 0, 1] [] [1, 0, 1]).W.length := by decide

theorem witness_FinishPacksTheRemainder :
    emptyRun.eng = .run ∧ 1 ≤ emptyRun.divLen ∧ emptyRun.divLen = emptyRun.D.length ∧ emptyRun.divLen ≤ 33 ∧
    emptyRun.W.length = emptyRun.divLen - 1 := by decide

theorem witness_ShortBufferIsPaddedAndFinishes :
    (runningOn [1, 0, 1] [] [1]).eng = .run ∧ 1 ≤ (runningOn [1, 0, 1] [] [1]).divLen ∧
    (runningOn [1, 0, 1] [] [1]).divLen = (runningOn [1, 0, 1] [] [1]).D.length ∧ (runningOn [1, 0, 1] [] [1]).divLen ≤ 33 ∧
    (runningOn [1, 0, 1] [] [1]).W.length < (runningOn [1, 0, 1] [] [1]).divLen - 1 := by decide

theorem witness_RunRaisesNoErrorAndEndsByItsEvents :
    running.Inv ∧ (after (step emptyRun)).map (·.eng) = some .idle ∧
    (after (step (running.present (commandKey 1#32)))).map (·.eng) = some .idle := by decide

theorem witness_NoStepFaultsInAWellFormedState :
    running.Inv ∧ refusal (step { running with inputs := [.busAccess ⟨false, 1, 4, 0#32⟩] }) = some .notAWordTransaction := by decide

theorem witness_ZeroDropIsFollowedByADrop :
    running.Inv ∧ running.eng = .run ∧ running.divLen ≤ running.W.length ∧ running.W.head? = some false ∧
    (runningOn [1, 1] [1] [1, 0]).Inv ∧ (runningOn [1, 1] [1] [1, 0]).divLen ≤ (runningOn [1, 1] [1] [1, 0]).W.length ∧
    (runningOn [1, 1] [1] [1, 0]).W.head? = some true :=
  ⟨by decide, by decide, by decide, by decide, by decide, by decide, by decide⟩

/-- EV18's first buffer: the window equals the divisor, and |W| ≥ n is left. -/
theorem witness_AllZeroWindowDropsExactlyR :
    (runningOn [1, 0, 1, 1] [1, 0, 1, 1] [1, 0, 1, 1, 0, 0, 0]).Inv ∧
    (runningOn [1, 0, 1, 1] [1, 0, 1, 1] [1, 0, 1, 1, 0, 0, 0]).eng = .run ∧
    (runningOn [1, 0, 1, 1] [1, 0, 1, 1] [1, 0, 1, 1, 0, 0, 0]).W = (bs [1, 0, 1, 1]).dropLast ++ true :: bs [0, 0, 0] ∧
    true = (bs [1, 0, 1, 1]).getLastD false := by decide

theorem witness_EmptyMessageFinishesAtOnce : ValidInputs ⟨33, 1024⟩ [] (bs [1, 0, 1]) := by decide

theorem witness_EveryStepKeepsTheInvariants :
    running.Inv ∧ running.Progress ∧ running.ResultFits ∧ (after (step running)).isSome = true :=
  ⟨by decide, by decide, by decide, by decide⟩

theorem witness_EveryStepKeepsTheResidue :
    ready.Inv ∧ ready.eng = .idle ∧ (after (exec .start ready)).isSome = true ∧ emptyRun.Inv ∧ emptyRun.ValueOk ∧
    (after (step emptyRun)).isSome = true :=
  ⟨by decide, by decide, by decide, by decide, emptyRun_value, by decide⟩

theorem witness_FinishDeliversTheRemainder :
    emptyRun.Inv ∧ emptyRun.ValueOk ∧ emptyRun.eng = .run ∧ (after (engineStep emptyRun)).map (·.eng) = some .idle :=
  ⟨by decide, emptyRun_value, by decide, by decide⟩

theorem witness_StartComputesTheCrcRemainder :
    ready.Inv ∧ ready.eng = .idle ∧ ready.rejectsStart = false ∧ ready.inputs = [.transaction (commandKey 2#32)] := by decide

theorem witness_CallingProtocolDeliversTheRemainder : ValidInputs ⟨33, 1024⟩ (bs [1, 1, 0, 1]) (bs [1, 0, 0, 1]) := by decide

theorem witness_RoundTripGivesTheZeroRemainder :
    ValidInputs ⟨4, 5⟩ (bs [1, 1]) (bs [1, 0, 0, 1]) ∧ (bs [1, 1]).length + ((bs [1, 0, 0, 1]).length - 1) ≤ 5 := by decide

theorem witness_ScheduleDoesNotChangeTheResult :
    ({ running with inputs := [.transaction (writeKey 6#4 1#32), .engineTurn, .transaction (readKey 4#4)] } : State).Inv ∧
    running.Progress ∧ running.eng = .run ∧
    (∀ i ∈ [Input.transaction (writeKey 6#4 1#32), .engineTurn, .transaction (readKey 4#4)], i.quiet = true) :=
  ⟨by decide, by decide, by decide, by decide⟩

theorem witness_StepsNeverDecreaseDuringARun :
    running.Inv ∧ running.Progress ∧ running.eng = .run ∧ (after (step running)).map (·.eng) = some .run :=
  ⟨by decide, by decide, by decide, by decide⟩

theorem witness_IdleResultsAreFinal :
    finished.eng = .idle ∧ (after (step (finished.present (writeKey 6#4 0#32)))).isSome = true ∧
    ¬(finished.present (writeKey 6#4 0#32)).nextTransaction (fun j => j = .start ∨ j = .clear ∨ j = .ack) ∧
    ¬(finished.present (writeKey 6#4 0#32)).nextReset := by
  refine ⟨rfl, by decide, ?_, ?_⟩
  · rintro ⟨i, rest, j, hi, hj, h⟩
    cases hi
    have hd : decodeKey (writeKey 6#4 0#32) = .wrMsgPush 0#32 := by decide
    rw [Input.isTransaction, hd] at hj
    subst hj
    simp at h
  · rintro ⟨rest, h⟩
    cases h

theorem witness_InputsAreFrozenWhileBusy :
    running.eng = .run ∧ (after (step running)).isSome = true ∧ ¬running.nextTransaction (fun j => j = .clear) ∧ ¬running.nextReset := by
  refine ⟨rfl, by decide, ?_, ?_⟩
  · rintro ⟨i, rest, j, hi, _⟩
    cases hi
  · rintro ⟨rest, h⟩
    cases h

theorem witness_RunBeginsOnlyAtAValidStart :
    ready.eng = .idle ∧ (after (step ready)).map (·.eng) = some .run ∧
    running.done = false ∧ (after (step emptyRun)).map (·.done) = some true := by decide

theorem witness_NoStepChangesTheParameters : (after (step { full with inputs := [.reset] })).map (·.cfg) = some ⟨3, 2⟩ := by decide

end Sys2Proof.Tests
end

/-! ### What an instruction does, and the parameters (00_scope.md R6, R7) -/

namespace Sys2Proof.Machine

/-- What the instruction of a host transaction makes of a state: one constructor per kind of meaning, so that a proof about every
instruction has these cases and not one per row of the opcode table. -/
inductive ExecEffect (s : State) : Instr → State → Prop
  | read (i : Instr) (v : Word) : ExecEffect s i (s.reply v)
  | noEffect (i : Instr) : ExecEffect s i s
  | ctrl (data : Word) : ExecEffect s (.wrCtrl data) { s with ie := ctrlEnable data }
  | divPush (data : Word) : ExecEffect s (.wrDivPush data) (s.unlessBusy fun t => t.appendDiv data)
  | msgPush (data : Word) : ExecEffect s (.wrMsgPush data) (s.unlessBusy fun t => t.appendMsg data)
  | clear : ExecEffect s .clear s.haltEngine.emptyMsg.emptyDiv.clearEvents.clearResult
  | start : ExecEffect s .start (s.unlessBusy fun t => t.acceptStart.validateStart)
  | clrMsg : ExecEffect s .clrMsg (s.unlessBusy State.emptyMsg)
  | clrDiv : ExecEffect s .clrDiv (s.unlessBusy State.emptyDiv)
  | ack : ExecEffect s .ack s.clearEvents
  | cmdRsvd (word : Word) : ExecEffect s (.cmdRsvd word) (s.raise .cmd)

/-- Every instruction answers a next state (60_exceptions.md R195), by one of the effects. -/
theorem exists_exec_eq_next (i : Instr) (s : State) : ∃ t, exec i s = .next t ∧ ExecEffect s i t := by
  cases i with
  | rdId | rdCfg | rdCtrl | rdCmd | rdStatus | rdDivPush | rdMsgPush | rdDivLen | rdMsgLen | rdResult | rdRlen | rdSteps
  | rdRsvd => exact ⟨_, rfl, .read _ _⟩
  | wrId | wrCfg | wrStatus | wrDivLen | wrMsgLen | wrResult | wrRlen | wrSteps | wrRsvd | nop => exact ⟨_, rfl, .noEffect _⟩
  | wrCtrl data => exact ⟨_, rfl, .ctrl data⟩
  | wrDivPush data => exact ⟨_, rfl, .divPush data⟩
  | wrMsgPush data => exact ⟨_, rfl, .msgPush data⟩
  | clear => exact ⟨_, rfl, .clear⟩
  | start => exact ⟨_, rfl, .start⟩
  | clrMsg => exact ⟨_, rfl, .clrMsg⟩
  | clrDiv => exact ⟨_, rfl, .clrDiv⟩
  | ack => exact ⟨_, rfl, .ack⟩
  | cmdRsvd word => exact ⟨_, rfl, .cmdRsvd word⟩

theorem execEffect_of_exec {i : Instr} {s t : State} (h : exec i s = .next t) : ExecEffect s i t := by
  obtain ⟨u, hu, heff⟩ := exists_exec_eq_next i s
  rw [hu] at h
  injection h with h
  exact h ▸ heff

@[simp] theorem appendMsg_cfg (s : State) (data : Word) : (s.appendMsg data).cfg = s.cfg := by
  by_cases h : s.msgLen = s.cfg.msgCap
  · rw [appendMsg_full s data h]
  · rw [appendMsg_room s data h]

@[simp] theorem appendDiv_cfg (s : State) (data : Word) : (s.appendDiv data).cfg = s.cfg := by
  by_cases h : s.divLen = s.cfg.divCap
  · rw [appendDiv_full s data h]
  · rw [appendDiv_room s data h]

@[simp] theorem validateStart_cfg (s : State) : s.validateStart.cfg = s.cfg := by
  obtain ⟨-, h⟩ | ⟨-, h⟩ := validateStart_cases s
  · simp [h, State.failStart]
  · simp [h]

/-- A guarded write keeps the parameters where the write does. -/
theorem unlessBusy_cfg (s : State) {f : State → State} (hf : (f s).cfg = s.cfg) : (s.unlessBusy f).cfg = s.cfg := by
  obtain ⟨-, h⟩ | ⟨-, h⟩ := unlessBusy_cases s f
  · rw [h, State.raise_cfg]
  · rw [h, hf]

theorem exec_cfg {i : Instr} {s t : State} (h : exec i s = .next t) : t.cfg = s.cfg := by
  cases execEffect_of_exec h with
  | read | noEffect | ctrl | clear | ack | cmdRsvd => simp
  | divPush data => exact unlessBusy_cfg s (appendDiv_cfg s data)
  | msgPush data => exact unlessBusy_cfg s (appendMsg_cfg s data)
  | start => exact unlessBusy_cfg s (by simp [State.acceptStart])
  | clrMsg => exact unlessBusy_cfg s (State.emptyMsg_cfg s)
  | clrDiv => exact unlessBusy_cfg s (State.emptyDiv_cfg s)

theorem engineStep_cfg {s t : State} (h : engineStep s = .next t) : t.cfg = s.cfg := by
  obtain ⟨-, rfl⟩ | ⟨-, -, ⟨-, rfl⟩ | ⟨-, rfl⟩ | ⟨-, rfl⟩⟩ := engineStep_cases h <;> rfl

theorem performInput_cfg {i : Input} {s t : State} (h : performInput i s = .next t) : t.cfg = s.cfg := by
  obtain ⟨j, -, hj⟩ | ⟨-, he⟩ | ⟨-, rfl⟩ := performInput_cases h
  · exact exec_cfg hj
  · exact engineStep_cfg he
  · rfl

/-- Settles O43: each of the three agents keeps the parameters. -/
theorem noStepChangesTheParameters : Obligations.NoStepChangesTheParameters := by
  intro s t h
  obtain ⟨-, he⟩ | ⟨i, rest, -, hi⟩ := step_cases h
  · exact engineStep_cfg he
  · have hcfg := performInput_cfg hi
    exact hcfg

end Sys2Proof.Machine

/-! ### Polynomials along the engine's steps (42_engine.md R160, R162, R165) -/

namespace Sys2Proof.Machine

open Polynomial

/-- INIT's padding multiplies by x^r. -/
theorem poly_append_zeros (r : Nat) (m : List Bool) : poly (m ++ List.replicate r false) = poly m * X ^ r := by
  simp [poly_append]

theorem poly_zeros_append (k : Nat) (w : List Bool) : poly (List.replicate k false ++ w) = poly w := by
  simp [poly_append]

/-- Dropping what the scan counts keeps the polynomial (R160). -/
theorem poly_drop_leadingZeroScan (r : Nat) (w : List Bool) : poly (w.drop (leadingZeroScan r w)) = poly w := by
  conv_rhs => rw [← List.take_append_drop (leadingZeroScan r w) w, take_leadingZeroScan, poly_zeros_append]

/-- A window XOR adds the divisor, shifted to the window (R162). -/
theorem poly_windowXor (d w : List Bool) (h : d.length ≤ w.length) :
    poly (windowXor d.length d w) = poly w + poly d * X ^ (w.length - d.length) := by
  have hlen : (w.take d.length).length = d.length := by simp [h]
  have hw : w = w.take d.length ++ w.drop d.length := (List.take_append_drop _ w).symm
  calc poly (windowXor d.length d w)
      = poly (List.zipWith (fun a b => a ^^ b) (w.take d.length) d ++ w.drop d.length) := by
        rw [← windowXor_append d _ _ hlen, ← hw]
    _ = (poly (w.take d.length) * X ^ (w.length - d.length) + poly (w.drop d.length))
          + poly d * X ^ (w.length - d.length) := by
        rw [poly_append, poly_zipWith_xor _ _ hlen, List.length_drop]
        ring
    _ = poly w + poly d * X ^ (w.length - d.length) := by
        rw [← List.length_drop, ← poly_append, ← hw]

/-- A sequence of r bits has a polynomial of degree below r. -/
theorem degree_poly_lt (S : List Bool) : (poly S).degree < S.length := by
  induction S with
  | nil => simp
  | cons b S ih =>
    rw [poly_cons, List.length_cons]
    have hS : (poly S).degree < ((S.length + 1 : ℕ) : WithBot ℕ) := ih.trans (by exact_mod_cast Nat.lt_succ_self _)
    cases b with
    | false => simpa using hS
    | true =>
      refine (degree_add_le _ _).trans_lt (max_lt ?_ hS)
      simp only [if_true, degree_X_pow]
      exact_mod_cast Nat.lt_succ_self _

/-- A divisor with leading bit 1 is X^r plus lower terms. -/
theorem poly_of_head_true {d : List Bool} (h : d.head? = some true) :
    ∃ q : (ZMod 2)[X], poly d = X ^ (d.length - 1) + q ∧ q.degree < ((d.length - 1 : ℕ) : WithBot ℕ) := by
  obtain ⟨d, rfl⟩ : ∃ e, d = true :: e := by simpa [List.head?_eq_some_iff] using h
  exact ⟨poly d, by simp [poly_cons], by simpa using degree_poly_lt d⟩

theorem monic_poly {d : List Bool} (h : d.head? = some true) : (poly d).Monic := by
  obtain ⟨q, hq, hdeg⟩ := poly_of_head_true h
  exact hq ▸ monic_X_pow_add hdeg

theorem degree_poly_of_head_true {d : List Bool} (h : d.head? = some true) :
    (poly d).degree = ((d.length - 1 : ℕ) : WithBot ℕ) := by
  obtain ⟨q, hq, hdeg⟩ := poly_of_head_true h
  rw [hq, degree_add_eq_left_of_degree_lt (by rwa [degree_X_pow]), degree_X_pow]

/-- Uniqueness of division with remainder: r bits with the residue of poly(M)·x^r are the contract's remainder (R165). -/
theorem poly_eq_crcRemainder {m d w : List Bool} (hd : d.head? = some true) (hw : w.length = d.length - 1)
    (hres : poly d ∣ poly w - poly m * X ^ (d.length - 1)) : poly w = crcRemainder m d := by
  have hdeg : (poly w).degree < (poly d).degree := by
    rw [degree_poly_of_head_true hd, ← hw]
    exact degree_poly_lt w
  rw [crcRemainder, ← modByMonic_eq_of_dvd_sub (monic_poly hd) hres, (modByMonic_eq_self_iff (monic_poly hd)).mpr hdeg]

end Sys2Proof.Machine

/-! ### Packing (42_engine.md R158, 10_state.md R37) -/

namespace Sys2Proof.Machine

theorem bitsToNat_append_singleton_eq_bit (w : List Bool) (b : Bool) : bitsToNat (w ++ [b]) = Nat.bit b (bitsToNat w) := by
  rw [bitsToNat_append_singleton, Nat.bit_val]

/-- The bits of the number of a sequence are its elements, last element lowest. -/
theorem testBit_bitsToNat (w : List Bool) (i : Nat) : (bitsToNat w).testBit i = w.reverse.getD i false := by
  induction w using List.reverseRecOn generalizing i with
  | nil => simp
  | append_singleton w b ih =>
    rw [bitsToNat_append_singleton_eq_bit, List.reverse_concat]
    cases i with
    | zero => simp
    | succ i => rw [Nat.testBit_bit_succ, ih, List.getD_cons_succ]

/-- Element i of r bits stands at bit r-1-i of their word. -/
theorem getLsbD_pack {w : List Bool} (hw : w.length ≤ 32) {i : Nat} (hi : i < w.length) :
    (pack w).getLsbD (w.length - 1 - i) = w[i] := by
  have h : w.length - 1 - i < w.reverse.length := by simp; omega
  rw [BitVec.getLsbD, pack_toNat w hw, testBit_bitsToNat, List.getD_eq_getElem _ _ h, List.getElem_reverse]
  congr 1
  omega

/-- RESULT holds what was packed. -/
theorem remainderBits_pack (w : List Bool) (hw : w.length ≤ 32) : remainderBits w.length (pack w) = w := by
  refine List.ext_getElem (by simp [remainderBits]) fun i _ hi => ?_
  simp [remainderBits, getLsbD_pack hw hi]

end Sys2Proof.Machine

/-! ### The engine in a well-formed running state (42_engine.md R150 to R157, R161, R167) -/

namespace Sys2Proof.Machine

theorem engineStep_idle {s : State} (h : s.eng = .idle) : engineStep s = .next s := by simp [engineStep, h]

/-- No engine step faults in a well-formed running state (R150). -/
theorem engineStep_run {s : State} (hinv : s.Inv) (hrun : s.eng = .run) : engineStep s = .next s.engineRun := by
  obtain ⟨⟨⟨⟨-, hcap⟩, -⟩, -, -, hlen, hle⟩, -, hrunOk, -, -⟩ := hinv
  obtain ⟨⟨htwo, -⟩, -⟩ := hrunOk hrun
  have hrange : s.engineInRange = true := (engineInRange_iff s).mpr ⟨by omega, hlen, by omega⟩
  simp [engineStep, hrun, hrange]

theorem padBuffer_of_length_eq {s : State} (h : s.W.length = s.width) : s.padBuffer = s := by
  simp [State.padBuffer, h]

/-- A buffer that is no longer than the remainder ends the computation: FINISH is PAD_FINISH with nothing to pad. -/
theorem engineRun_of_le {s : State} (h : s.W.length ≤ s.width) : s.engineRun = s.padFinish := by
  obtain heq | hlt := h.eq_or_lt
  · simp [State.engineRun, State.padFinish, heq, padBuffer_of_length_eq heq]
  · simp [State.engineRun, hlt, hlt.ne]

theorem engineRun_of_lt {s : State} (h : s.width < s.W.length) : s.engineRun = s.iterate := by
  simp [State.engineRun, h.ne', h.not_gt]

/-- A running divisor as 1 followed by r bits, r at least 1. -/
theorem exists_divisor_of_run {s : State} (hinv : s.Inv) (hrun : s.eng = .run) :
    ∃ d, s.D = true :: d ∧ s.width = d.length ∧ s.divLen = d.length + 1 ∧ 1 ≤ d.length := by
  obtain ⟨⟨-, -, -, hlen, -⟩, -, hrunOk, -, -⟩ := hinv
  obtain ⟨⟨htwo, hhead⟩, -⟩ := hrunOk hrun
  obtain ⟨d, hd⟩ : ∃ d, s.D = true :: d := by simpa [List.head?_eq_some_iff] using hhead
  have hdiv : s.divLen = d.length + 1 := by simp [hlen, hd]
  exact ⟨d, hd, by simp [State.width, hdiv], hdiv, by omega⟩

/-- The window fits the buffer where ITERATE is chosen. -/
theorem windowXor_length_of_run {s : State} (hinv : s.Inv) (hw : s.width < s.W.length) :
    (windowXor s.divLen s.D s.W).length = s.W.length := by
  obtain ⟨⟨-, -, -, hlen, -⟩, -⟩ := hinv
  exact windowXor_length _ _ _ hlen.le (by rw [State.width] at hw; omega)

theorem iterate_W_length {s : State} (hinv : s.Inv) (hw : s.width < s.W.length) :
    s.iterate.W.length = s.W.length - leadingZeroScan s.width (windowXor s.divLen s.D s.W) := by
  rw [State.iterate_W, List.length_drop, windowXor_length_of_run hinv hw]

/-- ITERATE leaves at least one element (R157). -/
theorem one_le_iterate_W_length {s : State} (hinv : s.Inv) (hw : s.width < s.W.length) : 1 ≤ s.iterate.W.length := by
  have hscan := leadingZeroScan_le s.width (windowXor s.divLen s.D s.W)
  rw [iterate_W_length hinv hw]
  omega

theorem iterate_W_length_le {s : State} (hinv : s.Inv) (hw : s.width < s.W.length) :
    s.iterate.W.length ≤ s.W.length := by
  rw [iterate_W_length hinv hw]
  omega

/-- ITERATE drops something exactly where the buffer starts with 1, whose XOR with the divisor's leading 1 is 0 (R161). -/
theorem leadingZeroScan_windowXor_eq_zero {s : State} (hinv : s.Inv) (hrun : s.eng = .run) {b : Bool} {v : List Bool}
    (hW : s.W = b :: v) : leadingZeroScan s.width (windowXor s.divLen s.D s.W) = 0 ↔ b = false := by
  obtain ⟨d, hD, hwidth, hdiv, hpos⟩ := exists_divisor_of_run hinv hrun
  obtain ⟨r, hr⟩ : ∃ r, d.length = r + 1 := ⟨d.length - 1, by omega⟩
  rw [hwidth, hdiv, hD, hW, windowXor_cons, hr, leadingZeroScan_eq_zero]
  simp

theorem iterate_W_length_lt_of_head_true {s : State} (hinv : s.Inv) (hrun : s.eng = .run) (hw : s.width < s.W.length)
    (hhead : s.W.head? = some true) : s.iterate.W.length < s.W.length := by
  obtain ⟨v, hW⟩ : ∃ v, s.W = true :: v := by simpa [List.head?_eq_some_iff] using hhead
  have hscan := (leadingZeroScan_windowXor_eq_zero hinv hrun hW).not.mpr (by simp)
  rw [iterate_W_length hinv hw]
  omega

theorem iterate_W_of_head_false {s : State} (hinv : s.Inv) (hrun : s.eng = .run) (hhead : s.W.head? = some false) :
    s.iterate.W = windowXor s.divLen s.D s.W := by
  obtain ⟨v, hW⟩ : ∃ v, s.W = false :: v := by simpa [List.head?_eq_some_iff] using hhead
  rw [State.iterate_W, (leadingZeroScan_windowXor_eq_zero hinv hrun hW).mpr rfl, List.drop_zero]

theorem iterate_head_of_head_false {s : State} (hinv : s.Inv) (hrun : s.eng = .run) (hhead : s.W.head? = some false) :
    s.iterate.W.head? = some true := by
  obtain ⟨d, hD, -, hdiv, -⟩ := exists_divisor_of_run hinv hrun
  obtain ⟨v, hW⟩ : ∃ v, s.W = false :: v := by simpa [List.head?_eq_some_iff] using hhead
  rw [iterate_W_of_head_false hinv hrun hhead, hdiv, hD, hW, windowXor_cons]
  simp

/-- The measure of R161 and R167: with each ITERATE twice the length of the buffer, less one where it starts with 1, falls. -/
theorem iterate_measure_lt {s : State} (hinv : s.Inv) (hrun : s.eng = .run) (hw : s.width < s.W.length) :
    2 * s.iterate.W.length + (s.W.head? == some true).toNat + 1 ≤
      2 * s.W.length + (s.iterate.W.head? == some true).toNat := by
  cases hhead : s.W.head? with
  | none =>
    rw [List.head?_eq_none_iff] at hhead
    simp [hhead] at hw
  | some b =>
    cases b with
    | true =>
      have hlt := iterate_W_length_lt_of_head_true hinv hrun hw hhead
      simp only [BEq.rfl, Bool.toNat_true]
      omega
    | false =>
      have hle := iterate_W_length_le hinv hw
      simp only [iterate_head_of_head_false hinv hrun hhead, BEq.rfl, Bool.toNat_true]
      simpa using hle

/-! ITERATE keeps the invariants of a running computation. -/

theorem iterate_inv {s : State} (hinv : s.Inv) (hrun : s.eng = .run) : s.iterate.Inv := by
  obtain ⟨hstores, -, hrunOk, hdone, hresult⟩ := hinv
  exact ⟨hstores, fun hidle => by simp [hrun] at hidle, hrunOk, hdone, hresult⟩

/-- STEPS does not wrap: a running computation counts to at most twice the message's length. -/
theorem iterate_steps_toNat {s : State} (hinv : s.Inv) (hprog : s.Progress) : s.iterate.steps.toNat = s.steps.toNat + 1 := by
  obtain ⟨⟨⟨-, -, hcap⟩, -⟩, -⟩ := hinv
  obtain ⟨hsteps, -⟩ := hprog
  have hone : (1 : BitVec 32).toNat = 1 := rfl
  rw [State.iterate_steps, BitVec.toNat_add, hone, Nat.mod_eq_of_lt (by omega)]

theorem iterate_progress {s : State} (hinv : s.Inv) (hprog : s.Progress) (hrun : s.eng = .run)
    (hw : s.width < s.W.length) : s.iterate.Progress := by
  have hcount := iterate_steps_toNat hinv hprog
  have hmeasure := iterate_measure_lt hinv hrun hw
  have hpos := one_le_iterate_W_length hinv hw
  have hle := iterate_W_length_le hinv hw
  obtain ⟨⟨-, -, hcap, -⟩, -⟩ := hinv
  obtain ⟨-, hrunning⟩ := hprog
  obtain ⟨-, hlen, -, hsum⟩ := hrunning hrun
  have hwidth : s.iterate.width = s.width := rfl
  have hhead : (s.W.head? == some true).toNat ≤ 1 := Bool.toNat_le _
  refine ⟨?_, fun _ => ⟨hpos, ?_, ?_, ?_⟩⟩ <;> simp only [State.iterate_msgLen, State.iterate_cfg, hwidth, hcount] <;> omega

theorem iterate_valueOk {s : State} (hinv : s.Inv) (hval : s.ValueOk) (hrun : s.eng = .run)
    (hw : s.width < s.W.length) : s.iterate.ValueOk := by
  intro _
  obtain ⟨⟨-, -, -, hlen, -⟩, -⟩ := hinv
  have hfits : s.D.length ≤ s.W.length := by rw [State.width] at hw; omega
  have hres : poly s.D ∣ poly s.W - poly s.M * Polynomial.X ^ s.width := hval hrun
  change poly s.D ∣ poly s.iterate.W - poly s.M * Polynomial.X ^ s.width
  rw [State.iterate_W, poly_drop_leadingZeroScan, hlen, poly_windowXor s.D s.W hfits, add_sub_right_comm]
  exact hres.add (Dvd.intro _ rfl)

/-! PAD_FINISH delivers. -/

theorem width_le_of_inv {s : State} (hinv : s.Inv) : s.width ≤ 32 := by
  obtain ⟨⟨⟨⟨-, hcap⟩, -⟩, -, -, -, hle⟩, -⟩ := hinv
  rw [State.width]
  omega

/-- Every finish sets RLEN to div_len - 1 (R166). -/
theorem padFinish_rlen_toNat {s : State} (hinv : s.Inv) : s.padFinish.rlen.toNat = s.divLen - 1 := by
  have hwidth := width_le_of_inv hinv
  change (BitVec.ofNat 6 s.width).toNat = s.width
  rw [BitVec.toNat_ofNat, Nat.mod_eq_of_lt (by omega)]

theorem padFinish_result (s : State) : s.padFinish.result = pack s.padBuffer.W := rfl

/-- The bits of RESULT at and above RLEN are 0 (10_state.md R37). -/
theorem padFinish_resultFits {s : State} (hinv : s.Inv) (hle : s.W.length ≤ s.width) : s.padFinish.ResultFits := by
  have hlen := padBuffer_length s hle
  have hwidth := width_le_of_inv hinv
  rw [State.ResultFits, padFinish_rlen_toNat hinv, padFinish_result, pack_toNat _ (by omega), ← State.width, ← hlen]
  exact bitsToNat_lt _

/-- The remainder held in RESULT at a finish is the contract's (R165). -/
theorem padFinish_remainder {s : State} (hinv : s.Inv) (hval : s.ValueOk) (hrun : s.eng = .run)
    (hle : s.W.length ≤ s.width) :
    poly (remainderBits s.padFinish.rlen.toNat s.padFinish.result) = crcRemainder s.M s.D := by
  have hlen := padBuffer_length s hle
  have hwidth := width_le_of_inv hinv
  have hbits : remainderBits s.padFinish.rlen.toNat s.padFinish.result = s.padBuffer.W := by
    rw [padFinish_rlen_toNat hinv, padFinish_result, ← State.width, ← hlen, remainderBits_pack _ (by omega)]
  have hpad : poly s.padBuffer.W = poly s.W := by rw [State.padBuffer_W, poly_zeros_append]
  obtain ⟨⟨-, -, -, hdiv, -⟩, -, hrunOk, -, -⟩ := hinv
  obtain ⟨⟨-, hhead⟩, -⟩ := hrunOk hrun
  have hr : s.width = s.D.length - 1 := by rw [State.width, hdiv]
  rw [hbits]
  refine poly_eq_crcRemainder hhead (hlen.trans hr) ?_
  rw [hpad, ← hr]
  exact hval hrun

end Sys2Proof.Machine

/-! ### START on valid inputs (41_commands.md R133, 42_engine.md R151) -/

namespace Sys2Proof.Machine

/-- The state in which an accepted, valid START leaves the block. -/
def State.started (s : State) : State := s.acceptStart.beginRun

theorem exec_start_valid {s : State} (hidle : s.eng = .idle) (hok : s.rejectsStart = false) :
    exec .start s = .next s.started := by
  change Host.Outcome.next (s.unlessBusy fun t => t.acceptStart.validateStart) = .next s.started
  rw [unlessBusy_idle s _ hidle]
  obtain ⟨hrej, -⟩ | ⟨-, hbegin⟩ := validateStart_cases s.acceptStart
  · rw [acceptStart_rejectsStart, hok] at hrej
    cases hrej
  · rw [hbegin, State.started]

theorem started_inv {s : State} (hinv : s.Inv) (hok : s.rejectsStart = false) : s.started.Inv := by
  obtain ⟨hstores, -⟩ := hinv
  obtain ⟨hdiv, hflags⟩ := (rejectsStart_eq_false s).mp hok
  refine ⟨hstores, fun hidle => ?_, fun _ => ⟨hdiv, hflags, rfl, ⟨rfl, rfl, rfl⟩, rfl, rfl⟩, fun hdone => ?_, ?_, ?_⟩
  · cases hidle
  · cases hdone
  · rintro ⟨⟩
  · exact fun hrlen => absurd rfl hrlen

theorem started_W_length {s : State} (hinv : s.Inv) : s.started.W.length = s.msgLen + s.width := by
  obtain ⟨⟨-, hlen, -⟩, -⟩ := hinv
  rw [hlen]
  exact initialBuffer_length s.acceptStart

theorem started_progress {s : State} (hinv : s.Inv) (hok : s.rejectsStart = false) : s.started.Progress := by
  have hlen := started_W_length hinv
  obtain ⟨⟨htwo, -⟩, -⟩ := (rejectsStart_eq_false s).mp hok
  have hsteps : s.started.steps.toNat = 0 := rfl
  have hmsg : s.started.msgLen = s.msgLen := rfl
  have hwidth : s.started.width = s.divLen - 1 := rfl
  rw [State.width] at hlen
  refine ⟨by omega, fun _ => ⟨?_, ?_, ?_, ?_⟩⟩ <;> omega

theorem started_valueOk (s : State) : s.started.ValueOk := by
  intro _
  change poly s.D ∣ poly (s.M ++ List.replicate s.width false) - poly s.M * Polynomial.X ^ s.width
  rw [poly_append_zeros, sub_self]
  exact dvd_zero _

end Sys2Proof.Machine

/-! ### The contract of a computation (00_scope.md R5) -/

namespace Sys2Proof.Machine

/-- t is the end of the computation that runs in s: idle with DONE, no new error, the stores as they were, STEPS within R167's
bound and the CRC remainder in RESULT. -/
structure Delivered (s t : State) : Prop where
  idle : t.eng = .idle
  noInput : t.inputs = []
  done : t.done = true
  errInvDiv : t.errInvDiv = s.errInvDiv
  errInvBit : t.errInvBit = s.errInvBit
  errCap : t.errCap = s.errCap
  errBusy : t.errBusy = s.errBusy
  errCmd : t.errCmd = s.errCmd
  message : t.M = s.M
  divisor : t.D = s.D
  rlen : t.rlen.toNat = s.divLen - 1
  steps : t.steps.toNat ≤ 2 * s.msgLen
  remainder : poly (remainderBits t.rlen.toNat t.result) = crcRemainder s.M s.D
  fits : t.ResultFits

theorem runSteps_idle (k : Nat) {s : State} (hidle : s.eng = .idle) (hin : s.inputs = []) : runSteps k s = .next s := by
  induction k with
  | zero => rfl
  | succ k ih => rw [runSteps_succ k ((step_of_nil hin).trans (engineStep_idle hidle)), ih]

/-- A step of the engine alone in a well-formed running state: ITERATE on a buffer longer than the remainder, else the finish. -/
theorem step_alone {s : State} (hinv : s.Inv) (hrun : s.eng = .run) (hin : s.inputs = []) :
    (s.width < s.W.length ∧ step s = .next s.iterate) ∨ (s.W.length ≤ s.width ∧ step s = .next s.padFinish) := by
  rw [step_of_nil hin, engineStep_run hinv hrun]
  obtain hw | hle := Nat.lt_or_ge s.width s.W.length
  · exact .inl ⟨hw, by rw [engineRun_of_lt hw]⟩
  · exact .inr ⟨hle, by rw [engineRun_of_le hle]⟩

theorem padFinish_delivered {s : State} (hinv : s.Inv) (hprog : s.Progress) (hval : s.ValueOk) (hrun : s.eng = .run)
    (hin : s.inputs = []) (hle : s.W.length ≤ s.width) : Delivered s s.padFinish := by
  obtain ⟨-, hrunning⟩ := hprog
  obtain ⟨-, -, hsteps, -⟩ := hrunning hrun
  exact
    { idle := rfl, noInput := hin, done := rfl, errInvDiv := rfl, errInvBit := rfl, errCap := rfl, errBusy := rfl,
      errCmd := rfl, message := rfl, divisor := rfl, rlen := padFinish_rlen_toNat hinv, steps := hsteps,
      remainder := padFinish_remainder hinv hval hrun hle, fits := padFinish_resultFits hinv hle }

/-- What ITERATE keeps is all that Delivered reads of the state it starts from. -/
theorem Delivered.of_iterate {s t : State} (h : Delivered s.iterate t) : Delivered s t :=
  { h with }

/-- The engine alone ends a running computation within one step more than its measure allows iterations (R167), whatever k bounds
the measure. -/
theorem runSteps_delivers (k : Nat) {s : State} (hinv : s.Inv) (hprog : s.Progress) (hval : s.ValueOk) (hrun : s.eng = .run)
    (hin : s.inputs = []) (hk : 2 * s.W.length ≤ k + 2 * s.width + (s.W.head? == some true).toNat) :
    ∃ t, runSteps (k + 1) s = .next t ∧ Delivered s t := by
  induction k generalizing s with
  | zero =>
    obtain ⟨hw, -⟩ | ⟨hle, hstep⟩ := step_alone hinv hrun hin
    · have hhead : (s.W.head? == some true).toNat ≤ 1 := Bool.toNat_le _
      omega
    · exact ⟨s.padFinish, runSteps_succ 0 hstep, padFinish_delivered hinv hprog hval hrun hin hle⟩
  | succ k ih =>
    obtain ⟨hw, hstep⟩ | ⟨hle, hstep⟩ := step_alone hinv hrun hin
    · have hmeasure := iterate_measure_lt hinv hrun hw
      have hwidth : s.iterate.width = s.width := rfl
      obtain ⟨t, ht, hdel⟩ := ih (iterate_inv hinv hrun) (iterate_progress hinv hprog hrun hw)
        (iterate_valueOk hinv hval hrun hw) hrun hin (by omega)
      exact ⟨t, (runSteps_succ (k + 1) hstep).trans ht, hdel.of_iterate⟩
    · have hdel := padFinish_delivered hinv hprog hval hrun hin hle
      exact ⟨s.padFinish, (runSteps_succ (k + 1) hstep).trans (runSteps_idle _ hdel.idle hdel.noInput), hdel⟩

/-- The step that takes a START on valid inputs. -/
theorem step_start_valid {s : State} {rest : List Input} (hidle : s.eng = .idle) (hok : s.rejectsStart = false)
    (hin : s.inputs = .transaction (commandKey 2#32) :: rest) : step s = .next { s with inputs := rest }.started := by
  have hdec : decodeKey (commandKey 2#32) = .start := by rw [decodeKey_commandKey]; rfl
  rw [step_of_cons hin]
  change exec (decodeKey (commandKey 2#32)) { s with inputs := rest } = _
  rw [hdec]
  exact exec_start_valid hidle hok

/-- Settles O45: the START establishes the invariants of a run, and the engine alone brings the run to its end. -/
theorem startComputesTheCrcRemainder : Obligations.StartComputesTheCrcRemainder := by
  intro s hinv hidle hok hin
  have hinv' : { s with inputs := [] }.Inv := hinv
  have hlen : { s with inputs := [] }.started.W.length = s.msgLen + s.width := started_W_length hinv'
  have hwidth : { s with inputs := [] }.started.width = s.width := rfl
  obtain ⟨t, ht, hdel⟩ := runSteps_delivers (2 * s.msgLen) (started_inv hinv' hok) (started_progress hinv' hok)
    (started_valueOk _) rfl rfl (by omega)
  refine ⟨t, ?_, hdel.idle, hdel.done, hdel.errInvDiv, hdel.errInvBit, hdel.errCap, hdel.errBusy, hdel.errCmd,
    hdel.message, hdel.divisor, hdel.rlen, hdel.steps, hdel.remainder, hdel.fits⟩
  rw [Nat.add_comm 1, runSteps_succ _ (step_start_valid hidle hok hin), ht]

end Sys2Proof.Machine

/-! ### What one step can do (20_memory.md R66, R70) -/

namespace Sys2Proof.Machine

/-- What an instruction makes of a state once the guard of the BUSY writes and START's validation are decided: ExecEffect with its
guarded cases split by eng, so that a proof about every instruction in every state has exactly these cases. -/
inductive DecidedEffect (s : State) : Instr → State → Prop
  | read (i : Instr) (v : Word) : DecidedEffect s i (s.reply v)
  | noEffect (i : Instr) : DecidedEffect s i s
  | ctrl (data : Word) : DecidedEffect s (.wrCtrl data) { s with ie := ctrlEnable data }
  | rejected (i : Instr) (hrun : s.eng = .run) : DecidedEffect s i (s.raise .busy)
  | divPush (data : Word) (hidle : s.eng = .idle) : DecidedEffect s (.wrDivPush data) (s.appendDiv data)
  | msgPush (data : Word) (hidle : s.eng = .idle) : DecidedEffect s (.wrMsgPush data) (s.appendMsg data)
  | clear : DecidedEffect s .clear s.haltEngine.emptyMsg.emptyDiv.clearEvents.clearResult
  | startFails (hidle : s.eng = .idle) (hbad : s.rejectsStart = true) : DecidedEffect s .start s.acceptStart.failStart
  | startRuns (hidle : s.eng = .idle) (hok : s.rejectsStart = false) : DecidedEffect s .start s.started
  | clrMsg (hidle : s.eng = .idle) : DecidedEffect s .clrMsg s.emptyMsg
  | clrDiv (hidle : s.eng = .idle) : DecidedEffect s .clrDiv s.emptyDiv
  | ack : DecidedEffect s .ack s.clearEvents
  | cmdRsvd (word : Word) : DecidedEffect s (.cmdRsvd word) (s.raise .cmd)

/-- A guarded write is rejected while RUN, and else has the effect that is decided for it while IDLE. -/
theorem DecidedEffect.of_unlessBusy {s : State} {i : Instr} {f : State → State}
    (h : s.eng = .idle → DecidedEffect s i (f s)) : DecidedEffect s i (s.unlessBusy f) := by
  obtain ⟨hrun, heq⟩ | ⟨hidle, heq⟩ := unlessBusy_cases s f
  · exact heq ▸ .rejected i hrun
  · exact heq ▸ h hidle

theorem decidedEffect_start {s : State} (hidle : s.eng = .idle) : DecidedEffect s .start s.acceptStart.validateStart := by
  obtain ⟨hbad, heq⟩ | ⟨hok, heq⟩ := validateStart_cases s.acceptStart
  · exact heq ▸ .startFails hidle hbad
  · exact heq ▸ .startRuns hidle hok

theorem decidedEffect_of_exec {i : Instr} {s t : State} (h : exec i s = .next t) : DecidedEffect s i t := by
  cases execEffect_of_exec h with
  | read i v => exact .read i v
  | noEffect i => exact .noEffect i
  | ctrl data => exact .ctrl data
  | divPush data => exact .of_unlessBusy fun hidle => .divPush data hidle
  | msgPush data => exact .of_unlessBusy fun hidle => .msgPush data hidle
  | clear => exact .clear
  | start => exact .of_unlessBusy decidedEffect_start
  | clrMsg => exact .of_unlessBusy .clrMsg
  | clrDiv => exact .of_unlessBusy .clrDiv
  | ack => exact .ack
  | cmdRsvd word => exact .cmdRsvd word

/-- An engine step that answers a next state: nothing while IDLE, else the finish or ITERATE, as |W| compares with r. -/
theorem engineStep_next_cases {s t : State} (h : engineStep s = .next t) :
    (s.eng = .idle ∧ t = s) ∨ (s.eng = .run ∧ s.W.length ≤ s.width ∧ t = s.padFinish) ∨
    (s.eng = .run ∧ s.width < s.W.length ∧ t = s.iterate) := by
  obtain ⟨hidle, rfl⟩ | ⟨hrun, -, ⟨heq, rfl⟩ | ⟨hlt, rfl⟩ | ⟨hgt, rfl⟩⟩ := engineStep_cases h
  · exact .inl ⟨hidle, rfl⟩
  · exact .inr (.inl ⟨hrun, heq.le, by rw [State.padFinish, padBuffer_of_length_eq heq]⟩)
  · exact .inr (.inl ⟨hrun, hlt.le, rfl⟩)
  · exact .inr (.inr ⟨hrun, hgt, rfl⟩)

/-- A step that answers a next state is one of the three agents', on the state with the input taken: an instruction performed, an
engine step, or the reset event. -/
theorem step_agent_cases {s t : State} (h : step s = .next t) :
    (∃ i rest j, s.inputs = i :: rest ∧ i.isTransaction j ∧ exec j { s with inputs := rest } = .next t) ∨
    ((s.inputs = [] ∨ ∃ rest, s.inputs = .engineTurn :: rest) ∧
      engineStep { s with inputs := s.inputs.tail } = .next t) ∨
    (∃ rest, s.inputs = .reset :: rest ∧ t = { s with inputs := rest }.resetEvent) := by
  obtain ⟨hnil, he⟩ | ⟨i, rest, hin, hi⟩ := step_cases h
  · have htail : s.inputs.tail = s.inputs := by rw [hnil, List.tail_nil]
    exact .inr (.inl ⟨.inl hnil, by rw [htail]; exact he⟩)
  · obtain ⟨j, hij, hj⟩ | ⟨rfl, he⟩ | ⟨rfl, ht⟩ := performInput_cases hi
    · exact .inl ⟨i, rest, j, hin, hij, hj⟩
    · exact .inr (.inl ⟨.inr ⟨rest, hin⟩, by rw [hin]; exact he⟩)
    · exact .inr (.inr ⟨rest, hin, ht⟩)

/-- A property of the block that taking an input, every instruction, every engine step and the reset event keep is kept by every
step. -/
theorem step_keeps {P : State → Prop} (hinput : ∀ s rest, P s → P { s with inputs := rest })
    (hexec : ∀ i s t, P s → exec i s = .next t → P t) (hengine : ∀ s t, P s → engineStep s = .next t → P t)
    (hreset : ∀ s, P s → P s.resetEvent) {s t : State} (hs : P s) (h : step s = .next t) : P t := by
  obtain ⟨_, rest, j, -, -, hj⟩ | ⟨-, he⟩ | ⟨rest, -, rfl⟩ := step_agent_cases h
  · exact hexec j _ t (hinput s rest hs) hj
  · exact hengine _ t (hinput s _ hs) he
  · exact hreset _ (hinput s rest hs)

end Sys2Proof.Machine

/-! ### What the operations change -/

namespace Sys2Proof.Machine

/-- A push changes its own store and that store's input flags, and nothing else. -/
theorem exists_appendDiv_eq (s : State) (data : Word) :
    ∃ D n bad ovf, s.appendDiv data = { s with D := D, divLen := n, divBad := bad, divOvf := ovf } := by
  by_cases hfull : s.divLen = s.cfg.divCap
  · exact ⟨_, _, _, _, appendDiv_full s data hfull⟩
  · exact ⟨_, _, _, _, appendDiv_room s data hfull⟩

theorem exists_appendMsg_eq (s : State) (data : Word) :
    ∃ M n bad ovf, s.appendMsg data = { s with M := M, msgLen := n, msgBad := bad, msgOvf := ovf } := by
  by_cases hfull : s.msgLen = s.cfg.msgCap
  · exact ⟨_, _, _, _, appendMsg_full s data hfull⟩
  · exact ⟨_, _, _, _, appendMsg_room s data hfull⟩

theorem raiseIf_invDiv (s : State) (c : Bool) : s.raiseIf c .invDiv = { s with errInvDiv := c || s.errInvDiv } := by
  cases c <;> rfl

theorem raiseIf_invBit (s : State) (c : Bool) : s.raiseIf c .invBit = { s with errInvBit := c || s.errInvBit } := by
  cases c <;> rfl

theorem raiseIf_cap (s : State) (c : Bool) : s.raiseIf c .cap = { s with errCap := c || s.errCap } := by
  cases c <;> rfl

/-- A failed validation sets the flag of every condition that holds, and nothing else (60_exceptions.md R186, R187). -/
theorem failStart_eq (s : State) :
    s.failStart =
      { s with
        errInvDiv := s.invalidDivisor || s.errInvDiv
        errInvBit := s.invalidBit || s.errInvBit
        errCap := s.capacityExceeded || s.errCap } := by
  rw [State.failStart, raiseIf_invDiv, raiseIf_invBit, raiseIf_cap]

end Sys2Proof.Machine

/-! ### The well-formed states (10_state.md R42) -/

namespace Sys2Proof.Machine

/-- While IDLE the clauses about a running computation say nothing: the stores, the empty buffer and DONE's clause are left. -/
theorem inv_of_idle {s : State} (hstores : s.StoresOk) (hidle : s.eng = .idle) (hW : s.W = []) (hdone : s.DoneOk) :
    s.Inv := by
  refine ⟨hstores, fun _ => hW, fun hrun => ?_, hdone, fun h hzero => ?_, fun _ => hidle⟩
  · simp [hidle] at hrun
  · obtain ⟨-, -, hone, -⟩ := hdone h
    simp [hzero] at hone

theorem inv_of_idle_of_not_done {s : State} (hstores : s.StoresOk) (hidle : s.eng = .idle) (hW : s.W = [])
    (hdone : s.done = false) : s.Inv :=
  inv_of_idle hstores hidle hW fun h => by simp [hdone] at h

/-! A push adds one element to its store, or none to a full one. -/

theorem appendDiv_storesOk {s : State} (h : s.StoresOk) (data : Word) : (s.appendDiv data).StoresOk := by
  by_cases hfull : s.divLen = s.cfg.divCap
  · rw [appendDiv_full s data hfull]
    exact h
  · obtain ⟨hlegal, hmsg, hmsgCap, hdiv, hdivCap⟩ := h
    rw [appendDiv_room s data hfull]
    exact ⟨hlegal, hmsg, hmsgCap, by simp [hdiv], Nat.lt_of_le_of_ne hdivCap hfull⟩

theorem appendMsg_storesOk {s : State} (h : s.StoresOk) (data : Word) : (s.appendMsg data).StoresOk := by
  by_cases hfull : s.msgLen = s.cfg.msgCap
  · rw [appendMsg_full s data hfull]
    exact h
  · obtain ⟨hlegal, hmsg, hmsgCap, hdiv, hdivCap⟩ := h
    rw [appendMsg_room s data hfull]
    exact ⟨hlegal, by simp [hmsg], Nat.lt_of_le_of_ne hmsgCap hfull, hdiv, hdivCap⟩

/-! Emptying a store leaves it with length 0. -/

theorem emptyMsg_storesOk {s : State} (h : s.StoresOk) : s.emptyMsg.StoresOk := by
  obtain ⟨hlegal, -, -, hdiv, hdivCap⟩ := h
  exact ⟨hlegal, rfl, Nat.zero_le _, hdiv, hdivCap⟩

theorem emptyDiv_storesOk {s : State} (h : s.StoresOk) : s.emptyDiv.StoresOk := by
  obtain ⟨hlegal, hmsg, hmsgCap, -, -⟩ := h
  exact ⟨hlegal, hmsg, hmsgCap, rfl, Nat.zero_le _⟩

/-! While IDLE a change of the stores and their input flags alone keeps the invariant where it keeps the stores' clause. -/

theorem appendDiv_inv {s : State} (hinv : s.Inv) (hidle : s.eng = .idle) (data : Word) : (s.appendDiv data).Inv := by
  obtain ⟨hstores, hbuffer, -, hdone, -⟩ := hinv
  have hstores' := appendDiv_storesOk hstores data
  obtain ⟨D, n, bad, ovf, heq⟩ := exists_appendDiv_eq s data
  rw [heq] at hstores' ⊢
  exact inv_of_idle hstores' hidle (hbuffer hidle) hdone

theorem appendMsg_inv {s : State} (hinv : s.Inv) (hidle : s.eng = .idle) (data : Word) : (s.appendMsg data).Inv := by
  obtain ⟨hstores, hbuffer, -, hdone, -⟩ := hinv
  have hstores' := appendMsg_storesOk hstores data
  obtain ⟨M, n, bad, ovf, heq⟩ := exists_appendMsg_eq s data
  rw [heq] at hstores' ⊢
  exact inv_of_idle hstores' hidle (hbuffer hidle) hdone

theorem emptyMsg_inv {s : State} (hinv : s.Inv) (hidle : s.eng = .idle) : s.emptyMsg.Inv := by
  obtain ⟨hstores, hbuffer, -, hdone, -⟩ := hinv
  exact inv_of_idle (emptyMsg_storesOk hstores) hidle (hbuffer hidle) hdone

theorem emptyDiv_inv {s : State} (hinv : s.Inv) (hidle : s.eng = .idle) : s.emptyDiv.Inv := by
  obtain ⟨hstores, hbuffer, -, hdone, -⟩ := hinv
  exact inv_of_idle (emptyDiv_storesOk hstores) hidle (hbuffer hidle) hdone

theorem clear_inv {s : State} (hinv : s.Inv) : s.haltEngine.emptyMsg.emptyDiv.clearEvents.clearResult.Inv := by
  obtain ⟨hstores, -⟩ := hinv
  have hempty : s.emptyMsg.emptyDiv.StoresOk := emptyDiv_storesOk (emptyMsg_storesOk hstores)
  exact inv_of_idle_of_not_done hempty rfl rfl rfl

/-- ERR_BUSY and ERR_CMD are no part of R42. -/
theorem raise_busy_inv {s : State} (hinv : s.Inv) : (s.raise .busy).Inv := hinv

theorem raise_cmd_inv {s : State} (hinv : s.Inv) : (s.raise .cmd).Inv := hinv

/-- Clearing the events takes nothing from a running computation, in which DONE and the validation errors are 0 already. -/
theorem clearEvents_inv {s : State} (hinv : s.Inv) : s.clearEvents.Inv := by
  obtain ⟨hstores, hbuffer, hrunOk, -, -, hrlen⟩ := hinv
  refine ⟨hstores, hbuffer, fun hrun => ?_, ?_, ?_, hrlen⟩
  · obtain ⟨hdiv, hflags, -, -, hresult⟩ := hrunOk hrun
    exact ⟨hdiv, hflags, rfl, ⟨rfl, rfl, rfl⟩, hresult⟩
  · rintro ⟨⟩
  · rintro ⟨⟩

/-- A failed validation raises errors and nothing else: the stores and the engine stay, DONE has been cleared. -/
theorem failStart_inv {s : State} (hinv : s.Inv) (hidle : s.eng = .idle) : s.acceptStart.failStart.Inv := by
  obtain ⟨hstores, hbuffer, -⟩ := hinv
  rw [failStart_eq]
  exact inv_of_idle_of_not_done hstores hidle (hbuffer hidle) rfl

/-- A finish gives DONE with RLEN = r, which is from 1 to DIV_CAP - 1 for the divisor of a running computation. -/
theorem padFinish_inv {s : State} (hinv : s.Inv) (hrun : s.eng = .run) : s.padFinish.Inv := by
  have hrlen := padFinish_rlen_toNat hinv
  obtain ⟨hstores, -, hrunOk, -, -⟩ := hinv
  obtain ⟨⟨htwo, -⟩, -, -, herr, -⟩ := hrunOk hrun
  have ⟨_, _, _, _, hcap⟩ := hstores
  have hone : 1 ≤ s.padFinish.rlen.toNat := by omega
  have hmax : s.padFinish.rlen.toNat ≤ s.cfg.divCap - 1 := by omega
  exact inv_of_idle hstores rfl rfl fun _ => ⟨rfl, herr, hone, hmax⟩

theorem resetWith_inv {c : Config} (hc : c.Legal) : (State.resetWith c).Inv :=
  inv_of_idle_of_not_done ⟨hc, rfl, Nat.zero_le _, rfl, Nat.zero_le _⟩ rfl rfl rfl

theorem resetEvent_inv {s : State} (hinv : s.Inv) : s.resetEvent.Inv := by
  obtain ⟨⟨hlegal, -⟩, -⟩ := hinv
  exact resetWith_inv hlegal

theorem exec_inv {i : Instr} {s t : State} (hinv : s.Inv) (h : exec i s = .next t) : t.Inv := by
  cases decidedEffect_of_exec h with
  | read | noEffect | ctrl => exact hinv
  | rejected => exact raise_busy_inv hinv
  | divPush data hidle => exact appendDiv_inv hinv hidle data
  | msgPush data hidle => exact appendMsg_inv hinv hidle data
  | clear => exact clear_inv hinv
  | startFails hidle => exact failStart_inv hinv hidle
  | startRuns _ hok => exact started_inv hinv hok
  | clrMsg hidle => exact emptyMsg_inv hinv hidle
  | clrDiv hidle => exact emptyDiv_inv hinv hidle
  | ack => exact clearEvents_inv hinv
  | cmdRsvd => exact raise_cmd_inv hinv

theorem engineStep_inv {s t : State} (hinv : s.Inv) (h : engineStep s = .next t) : t.Inv := by
  obtain ⟨-, rfl⟩ | ⟨hrun, -, rfl⟩ | ⟨hrun, -, rfl⟩ := engineStep_next_cases h
  · exact hinv
  · exact padFinish_inv hinv hrun
  · exact iterate_inv hinv hrun

theorem step_inv {s t : State} (hinv : s.Inv) (h : step s = .next t) : t.Inv :=
  step_keeps (P := State.Inv) (fun _ _ hs => hs) (fun _ _ _ => exec_inv) (fun _ _ => engineStep_inv)
    (fun _ => resetEvent_inv) hinv h

/-- Settles O39: each of the three agents keeps the well-formed states. -/
theorem everyStepKeepsWellFormed : Obligations.EveryStepKeepsWellFormed :=
  fun _ _ => step_inv

end Sys2Proof.Machine

/-! ### The counter bounds (10_state.md R24, R44; 42_engine.md R167) -/

namespace Sys2Proof.Machine

/-- While IDLE only the bound by MSG_CAP is left of the counter bounds. -/
theorem progress_iff_of_idle {s : State} (hidle : s.eng = .idle) : s.Progress ↔ s.steps.toNat ≤ 2 * s.cfg.msgCap := by
  simp [State.Progress, hidle]

/-- A change between two IDLE states that keeps STEPS and the parameters keeps the counter bounds, whatever becomes of the
stores (log entry 10). -/
theorem progress_of_idle {s t : State} (hprog : s.Progress) (hidle : t.eng = .idle) (hsteps : t.steps = s.steps)
    (hcfg : t.cfg = s.cfg) : t.Progress := by
  obtain ⟨hbound, -⟩ := hprog
  rw [progress_iff_of_idle hidle, hsteps, hcfg]
  exact hbound

theorem progress_of_idle_of_steps_zero {s : State} (hidle : s.eng = .idle) (hsteps : s.steps = 0#32) : s.Progress := by
  rw [progress_iff_of_idle hidle, hsteps]
  exact Nat.zero_le _

theorem exec_progress {i : Instr} {s t : State} (hinv : s.Inv) (hprog : s.Progress) (h : exec i s = .next t) :
    t.Progress := by
  cases decidedEffect_of_exec h with
  | read | noEffect | ctrl | rejected | ack | cmdRsvd => exact hprog
  | divPush data hidle =>
    obtain ⟨D, n, bad, ovf, heq⟩ := exists_appendDiv_eq s data
    rw [heq]
    exact progress_of_idle hprog hidle rfl rfl
  | msgPush data hidle =>
    obtain ⟨M, n, bad, ovf, heq⟩ := exists_appendMsg_eq s data
    rw [heq]
    exact progress_of_idle hprog hidle rfl rfl
  | clear => exact progress_of_idle_of_steps_zero rfl rfl
  | startFails hidle =>
    rw [failStart_eq]
    exact progress_of_idle_of_steps_zero hidle rfl
  | startRuns _ hok => exact started_progress hinv hok
  | clrMsg hidle => exact progress_of_idle hprog hidle rfl rfl
  | clrDiv hidle => exact progress_of_idle hprog hidle rfl rfl

theorem engineStep_progress {s t : State} (hinv : s.Inv) (hprog : s.Progress) (h : engineStep s = .next t) :
    t.Progress := by
  obtain ⟨-, rfl⟩ | ⟨-, -, rfl⟩ | ⟨hrun, hw, rfl⟩ := engineStep_next_cases h
  · exact hprog
  · exact progress_of_idle hprog rfl rfl rfl
  · exact iterate_progress hinv hprog hrun hw

theorem resetWith_progress (c : Config) : (State.resetWith c).Progress :=
  progress_of_idle_of_steps_zero rfl rfl

theorem step_progress {s t : State} (hinv : s.Inv) (hprog : s.Progress) (h : step s = .next t) : t.Progress := by
  obtain ⟨-, hprog'⟩ : t.Inv ∧ t.Progress :=
    step_keeps (P := fun s => s.Inv ∧ s.Progress) (fun _ _ hs => hs)
      (fun _ _ _ ⟨hinv, hprog⟩ h => ⟨exec_inv hinv h, exec_progress hinv hprog h⟩)
      (fun _ _ ⟨hinv, hprog⟩ h => ⟨engineStep_inv hinv h, engineStep_progress hinv hprog h⟩)
      (fun s ⟨hinv, _⟩ => ⟨resetEvent_inv hinv, resetWith_progress s.cfg⟩) ⟨hinv, hprog⟩ h
  exact hprog'

/-- A running buffer holds at most MSG_CAP message bits and DIV_CAP - 1 padding zeros (R8, R24). -/
theorem W_length_le_wcap {s : State} (hinv : s.Inv) (hprog : s.Progress) (hrun : s.eng = .run) :
    s.W.length ≤ s.cfg.wcap := by
  obtain ⟨⟨-, -, hmsgCap, -, hdivCap⟩, -, hrunOk, -, -⟩ := hinv
  obtain ⟨⟨htwo, -⟩, -⟩ := hrunOk hrun
  obtain ⟨-, hrunning⟩ := hprog
  obtain ⟨-, hlen, -⟩ := hrunning hrun
  rw [State.width] at hlen
  rw [Config.wcap]
  omega

/-- Settles O40: each of the three agents keeps the counter bounds; the length of a running buffer follows from them. -/
theorem everyStepKeepsTheCounterBounds : Obligations.EveryStepKeepsTheCounterBounds := by
  intro s t hinv hprog h
  have hprog' := step_progress hinv hprog h
  exact ⟨hprog', W_length_le_wcap (step_inv hinv h) hprog'⟩

end Sys2Proof.Machine

/-! ### RESULT within its width (10_state.md R37) -/

namespace Sys2Proof.Machine

theorem resultFits_of_zero {s : State} (hresult : s.result = 0#32) : s.ResultFits := by
  simp [State.ResultFits, hresult]

/-- An instruction keeps RESULT and RLEN or clears RESULT. -/
theorem exec_resultFits {i : Instr} {s t : State} (hfits : s.ResultFits) (h : exec i s = .next t) : t.ResultFits := by
  cases decidedEffect_of_exec h with
  | read | noEffect | ctrl | rejected | clrMsg | clrDiv | ack | cmdRsvd => exact hfits
  | divPush data =>
    obtain ⟨D, n, bad, ovf, heq⟩ := exists_appendDiv_eq s data
    rw [heq]
    exact hfits
  | msgPush data =>
    obtain ⟨M, n, bad, ovf, heq⟩ := exists_appendMsg_eq s data
    rw [heq]
    exact hfits
  | clear => exact resultFits_of_zero rfl
  | startFails =>
    rw [failStart_eq]
    exact resultFits_of_zero rfl
  | startRuns => exact resultFits_of_zero rfl

theorem engineStep_resultFits {s t : State} (hinv : s.Inv) (hfits : s.ResultFits) (h : engineStep s = .next t) :
    t.ResultFits := by
  obtain ⟨-, rfl⟩ | ⟨-, hle, rfl⟩ | ⟨-, -, rfl⟩ := engineStep_next_cases h
  · exact hfits
  · exact padFinish_resultFits hinv hle
  · exact hfits

/-- Settles O41: a finish packs r bits with RLEN = r, and every other step keeps RESULT and RLEN or clears them. -/
theorem everyStepKeepsResultWithinItsWidth : Obligations.EveryStepKeepsResultWithinItsWidth := by
  intro s t hinv hfits h
  obtain ⟨-, hfits'⟩ : t.Inv ∧ t.ResultFits :=
    step_keeps (P := fun s => s.Inv ∧ s.ResultFits) (fun _ _ hs => hs)
      (fun _ _ _ ⟨hinv, hfits⟩ h => ⟨exec_inv hinv h, exec_resultFits hfits h⟩)
      (fun _ _ ⟨hinv, hfits⟩ h => ⟨engineStep_inv hinv h, engineStep_resultFits hinv hfits h⟩)
      (fun _ ⟨hinv, _⟩ => ⟨resetEvent_inv hinv, resultFits_of_zero rfl⟩) ⟨hinv, hfits⟩ h
  exact hfits'

end Sys2Proof.Machine

/-! ### Where eng and DONE change (10_state.md R25, R32) -/

namespace Sys2Proof.Machine

/-- The only instruction that leaves IDLE is a START that validation accepts (41_commands.md R133). -/
theorem exec_begins_run {i : Instr} {s t : State} (h : exec i s = .next t) (hidle : s.eng = .idle) (hrun : t.eng = .run) :
    i = .start ∧ s.rejectsStart = false := by
  have stays {u : State} (heng : u.eng = s.eng) : ¬ u.eng = .run := by simp [heng, hidle]
  cases decidedEffect_of_exec h with
  | read | noEffect | ctrl | rejected | clrMsg | clrDiv | ack | cmdRsvd => exact absurd hrun (stays rfl)
  | divPush data =>
    obtain ⟨D, n, bad, ovf, heq⟩ := exists_appendDiv_eq s data
    exact absurd hrun (heq ▸ stays rfl)
  | msgPush data =>
    obtain ⟨M, n, bad, ovf, heq⟩ := exists_appendMsg_eq s data
    exact absurd hrun (heq ▸ stays rfl)
  | clear => cases hrun
  | startFails =>
    rw [failStart_eq] at hrun
    exact absurd hrun (stays rfl)
  | startRuns _ hok => exact ⟨rfl, hok⟩

/-- No instruction sets DONE. -/
theorem done_of_exec_done {i : Instr} {s t : State} (h : exec i s = .next t) (hdone : t.done = true) : s.done = true := by
  cases decidedEffect_of_exec h with
  | read | noEffect | ctrl | rejected | clrMsg | clrDiv | cmdRsvd => exact hdone
  | divPush data =>
    obtain ⟨D, n, bad, ovf, heq⟩ := exists_appendDiv_eq s data
    rw [heq] at hdone
    exact hdone
  | msgPush data =>
    obtain ⟨M, n, bad, ovf, heq⟩ := exists_appendMsg_eq s data
    rw [heq] at hdone
    exact hdone
  | clear | startRuns | ack => cases hdone
  | startFails =>
    rw [failStart_eq] at hdone
    cases hdone

/-- An engine step that sets DONE is the finish of a running computation. -/
theorem engineStep_sets_done {s t : State} (h : engineStep s = .next t) (hundone : s.done = false) (hdone : t.done = true) :
    s.eng = .run ∧ t.eng = .idle ∧ s.W.length ≤ s.width := by
  obtain ⟨-, rfl⟩ | ⟨hrun, hle, rfl⟩ | ⟨-, -, rfl⟩ := engineStep_next_cases h
  · simp [hundone] at hdone
  · exact ⟨hrun, rfl, hle⟩
  · simp [hundone] at hdone

theorem step_begins_run {s t : State} (h : step s = .next t) (hidle : s.eng = .idle) (hrun : t.eng = .run) :
    s.nextTransaction (fun j => j = .start) ∧ s.rejectsStart = false := by
  obtain ⟨i, rest, j, hin, hij, hj⟩ | ⟨-, he⟩ | ⟨rest, -, rfl⟩ := step_agent_cases h
  · obtain ⟨hstart, hok⟩ := exec_begins_run hj hidle hrun
    exact ⟨⟨i, rest, j, hin, hij, hstart⟩, hok⟩
  · have hidle' : { s with inputs := s.inputs.tail }.eng = .idle := hidle
    rw [engineStep_idle hidle'] at he
    cases he
    simp [hidle] at hrun
  · cases hrun

theorem step_sets_done {s t : State} (h : step s = .next t) (hundone : s.done = false) (hdone : t.done = true) :
    s.eng = .run ∧ t.eng = .idle ∧ s.W.length ≤ s.divLen - 1 ∧ (s.inputs = [] ∨ ∃ rest, s.inputs = .engineTurn :: rest) := by
  obtain ⟨_, rest, j, -, -, hj⟩ | ⟨hturn, he⟩ | ⟨rest, -, rfl⟩ := step_agent_cases h
  · have hwas : { s with inputs := rest }.done = true := done_of_exec_done hj hdone
    simp [hundone] at hwas
  · obtain ⟨hrun, hidle, hle⟩ := engineStep_sets_done he hundone hdone
    exact ⟨hrun, hidle, hle, hturn⟩
  · cases hdone

/-- Settles O52: of the three agents only the host begins a computation, by START, and only the engine sets DONE, by a finish. -/
theorem runBeginsOnlyAtAValidStart : Obligations.RunBeginsOnlyAtAValidStart :=
  fun _ _ h => ⟨step_begins_run h, step_sets_done h⟩

end Sys2Proof.Machine

/-! ### Reset (10_state.md R43, 70_reset_and_hazards.md R210) -/

namespace Sys2Proof.Machine

/-- Settles O7: the reset input is the reset event, and a transaction while reset is held is no step. -/
theorem resetSetsEveryElement : Obligations.ResetSetsEveryElement := by
  refine ⟨fun s rest hin => ?_, fun s k rest hin => ?_⟩
  · exact ⟨_, step_of_cons hin, rfl, rfl⟩
  · exact step_of_cons hin

theorem resetWith_valueOk (c : Config) : (State.resetWith c).ValueOk := by
  rintro ⟨⟩

/-- Settles O38: the reset state is idle, with its stores empty and RESULT 0. -/
theorem resetIsWellFormed : Obligations.ResetIsWellFormed := by
  refine ⟨fun c hc => ?_, rfl, ?_⟩
  · exact ⟨resetWith_inv hc, resetWith_progress c, resultFits_of_zero rfl, resetWith_valueOk c⟩
  · have hlegal : Config.reference.Legal := by decide
    exact resetWith_inv hlegal

end Sys2Proof.Machine

/-! ### Which results a step from IDLE leaves (20_memory.md R71, 70_reset_and_hazards.md R223) -/

namespace Sys2Proof.Machine

/-- START and CLEAR are the only instructions that write the result state, and ACK the only other one that writes DONE: pushes,
store clears and the writes rejected while BUSY leave a stale result. -/
theorem exec_keeps_results {i : Instr} {s t : State} (h : exec i s = .next t) (hstart : i ≠ .start) (hclear : i ≠ .clear) :
    t.result = s.result ∧ t.rlen = s.rlen ∧ t.steps = s.steps ∧ (i ≠ .ack → t.done = s.done) := by
  cases decidedEffect_of_exec h with
  | read | noEffect | ctrl | rejected | clrMsg | clrDiv | cmdRsvd => exact ⟨rfl, rfl, rfl, fun _ => rfl⟩
  | divPush data =>
    obtain ⟨D, n, bad, ovf, heq⟩ := exists_appendDiv_eq s data
    simp [heq]
  | msgPush data =>
    obtain ⟨M, n, bad, ovf, heq⟩ := exists_appendMsg_eq s data
    simp [heq]
  | clear => exact absurd rfl hclear
  | startFails | startRuns => exact absurd rfl hstart
  | ack => exact ⟨rfl, rfl, rfl, fun hack => absurd rfl hack⟩

/-- Settles O50: of the three agents the engine does nothing while IDLE, and of the host's instructions only START and CLEAR write
the result state, and DONE only these and ACK. -/
theorem idleResultsAreFinal : Obligations.IdleResultsAreFinal := by
  intro s t hidle h hno hreset
  obtain ⟨i, rest, j, hin, hij, hj⟩ | ⟨-, he⟩ | ⟨rest, hin, -⟩ := step_agent_cases h
  · have hstart : j ≠ .start := fun heq => hno ⟨i, rest, j, hin, hij, .inl heq⟩
    have hclear : j ≠ .clear := fun heq => hno ⟨i, rest, j, hin, hij, .inr heq⟩
    obtain ⟨hresult, hrlen, hsteps, hdone⟩ := exec_keeps_results hj hstart hclear
    exact ⟨hresult, hrlen, hsteps, fun hnoAck => hdone fun hack => hnoAck ⟨i, rest, j, hin, hij, hack⟩⟩
  · have hidle' : { s with inputs := s.inputs.tail }.eng = .idle := hidle
    rw [engineStep_idle hidle'] at he
    cases he
    exact ⟨rfl, rfl, rfl, fun _ => rfl⟩
  · exact absurd ⟨rest, hin⟩ hreset

end Sys2Proof.Machine

/-! ### Byte-addressed accesses (20_memory.md R64) -/

namespace Sys2Proof.Machine

theorem wholeWord_iff (a : BusAccess) : a.wholeWord = true ↔ a.size = 4 ∧ a.offset % 4 = 0 ∧ a.offset < 64 := by
  simp [BusAccess.wholeWord, and_assoc]

/-- The word at byte offset 4·IDX is register IDX. -/
theorem key_of_wholeWord (we : Bool) (idx : Index) (data : Word) :
    (BusAccess.mk we (4 * idx.toNat) 4 data).key = some (if we then writeKey idx data else readKey idx) := by
  have hlt : idx.toNat < 16 := idx.isLt
  have hwhole : (BusAccess.mk we (4 * idx.toNat) 4 data).wholeWord = true :=
    (wholeWord_iff _).mpr ⟨rfl, Nat.mul_mod_right 4 _, show 4 * idx.toNat < 64 by omega⟩
  have hidx : BitVec.ofNat 4 (4 * idx.toNat / 4) = idx := by
    rw [Nat.mul_div_cancel_left _ (by decide), BitVec.ofNat_toNat, BitVec.setWidth_eq]
  rw [BusAccess.key, if_pos hwhole, hidx]
  cases we <;> rfl

theorem key_eq_none {a : BusAccess} (h : a.size ≠ 4 ∨ a.offset % 4 ≠ 0 ∨ 64 ≤ a.offset) : a.key = none := by
  have hwhole : ¬a.wholeWord = true := by
    rw [wholeWord_iff]
    omega
  rw [BusAccess.key, if_neg hwhole]

theorem performBus_of_key {a : BusAccess} {k : Key} (h : a.key = some k) (s : State) :
    performBus a s = exec (decodeKey k) s := by
  simp [performBus, h, performKey]

theorem performBus_of_no_key {a : BusAccess} (h : a.key = none) (s : State) :
    performBus a s = .refused .notAWordTransaction := by
  simp [performBus, h]

/-- Settles O8: a whole aligned word has its register's key, and every other access has none. -/
theorem byteAccessIsItsWordOrRefused : Obligations.ByteAccessIsItsWordOrRefused := by
  refine ⟨fun s we idx data rest hin => ?_, fun s a rest hin hbad => ?_⟩
  · exact (step_of_cons hin).trans (performBus_of_key (key_of_wholeWord we idx data) _)
  · exact (step_of_cons hin).trans (performBus_of_no_key (key_eq_none hbad) _)

end Sys2Proof.Machine

/-! ### Reads (20_memory.md R67) -/

namespace Sys2Proof.Machine

theorem decodeKey_of_read {k : Key} (h : keyWe k = false) : decodeKey k = decodeRead (keyIndex k) := by
  simp [decodeKey, h]

/-- The read of each of the sixteen indices is a reply. -/
theorem exists_exec_decodeRead_eq (idx : Index) (s : State) : ∃ v, exec (decodeRead idx) s = .next (s.reply v) := by
  unfold decodeRead
  split <;> exact ⟨_, rfl⟩

/-- Settles O13: a key with WE = 0 decodes to the read of its index, and a read only replies. -/
theorem readsHaveNoSideEffect : Obligations.ReadsHaveNoSideEffect := by
  intro k s hread
  rw [decodeKey_of_read hread]
  exact exists_exec_decodeRead_eq (keyIndex k) s

end Sys2Proof.Machine

/-! ### The agents' steps (20_memory.md R66, R70) -/

namespace Sys2Proof.Machine

theorem step_of_transaction {s : State} {k : Key} {rest : List Input} (h : s.inputs = .transaction k :: rest) :
    step s = exec (decodeKey k) { s with inputs := rest } :=
  step_of_cons h

/-- A table word that decodes is the number of a key that decodes to the same instruction. -/
theorem exists_key_of_decodeTableWord {nbits w : Nat} {i : Instr} (h : decodeTableWord nbits w = some i) :
    ∃ k, keyOfNat (tableNat nbits w) = some k ∧ decodeKey k = i := by
  unfold decodeTableWord decode at h
  split at h
  · next k hk => exact ⟨k, hk, Option.some.inj h⟩
  · cases h

theorem withFetchWord_of_key {nbits w : Nat} {k : Key} (h : keyOfNat (tableNat nbits w) = some k) (s : State) :
    s.withFetchWord nbits w = s.present k := by
  simp [State.withFetchWord, State.presentWord, h]

/-- Settles O5: a transaction that is next is performed as its decoded instruction, and withFetchWord makes the table word's key
the next transaction, whose taking gives the state back. -/
theorem stepRunsTheDecodedTransaction : Obligations.StepRunsTheDecodedTransaction := by
  refine ⟨fun s k rest hin => step_of_transaction hin, fun s nbits w i hw => ?_⟩
  obtain ⟨k, hk, rfl⟩ := exists_key_of_decodeTableWord hw
  rw [withFetchWord_of_key hk]
  have hpresent : (s.present k).inputs = .transaction k :: s.inputs := rfl
  exact step_of_transaction hpresent

/-- Settles O6: the two places where a step is the engine's. -/
theorem engineTurnIsAnEngineStep : Obligations.EngineTurnIsAnEngineStep :=
  ⟨fun _ _ hturn => step_of_cons hturn, fun _ hnil => step_of_nil hnil⟩

end Sys2Proof.Machine

/-! ### Encoding (30_encoding.md R80 to R85) -/

namespace Sys2Proof

/-- An index of 12 to 15 reads as the reserved one. -/
theorem decodeRead_of_reserved {idx : Index} (h : reservedIndex idx = true) : decodeRead idx = .rdRsvd idx := by
  revert idx
  decide

/-- An index of 12 to 15 is written as the reserved one: no named index is that large. -/
theorem decodeWrite_of_reserved {idx : Index} (h : reservedIndex idx = true) (data : Word) :
    decodeWrite idx data = .wrRsvd idx data := by
  have hidx : 12 ≤ idx.toNat := of_decide_eq_true h
  unfold decodeWrite
  split
  case h_13 => rfl
  all_goals omega

/-- A word of 6 or more is a reserved command: no defined command is that large. -/
theorem decodeCommand_of_reserved {word : Word} (h : reservedCommand word = true) : decodeCommand word = .cmdRsvd word := by
  have hword : 6 ≤ word.toNat := of_decide_eq_true h
  unfold decodeCommand
  split
  case h_7 => rfl
  all_goals omega

/-- Settles O1: only the reserved rows need well-formedness, which keeps their operands apart from those of the exact rows (R85);
the key of every other instruction has its row's index or command word written out. -/
theorem decodeOfEncodeIsTheInstruction : Obligations.DecodeOfEncodeIsTheInstruction := by
  intro i hwf
  cases i with
  | rdRsvd idx => exact (decodeKey_readKey idx).trans (decodeRead_of_reserved hwf)
  | wrRsvd idx data => exact (decodeKey_writeKey idx data).trans (decodeWrite_of_reserved hwf data)
  | cmdRsvd word => exact (decodeKey_commandKey word).trans (decodeCommand_of_reserved hwf)
  | rdId | rdCfg | rdCtrl | rdCmd | rdStatus | rdDivPush | rdMsgPush | rdDivLen | rdMsgLen | rdResult | rdRlen | rdSteps =>
    exact decodeKey_readKey _
  | wrId data | wrCfg data | wrCtrl data | wrStatus data | wrDivPush data | wrMsgPush data | wrDivLen data | wrMsgLen data
  | wrResult data | wrRlen data | wrSteps data => exact decodeKey_writeKey _ data
  | nop | clear | start | clrMsg | clrDiv | ack => exact decodeKey_commandKey _

theorem wf_decodeRead (idx : Index) : (decodeRead idx).wf = true := by
  revert idx
  decide

theorem encode_decodeRead (idx : Index) : encode (decodeRead idx) = readKey idx := by
  revert idx
  decide

/-- The command word that a key is decoded to is the one it is encoded with, exact or reserved. -/
theorem wf_and_encode_decodeCommand (word : Word) :
    (decodeCommand word).wf = true ∧ encode (decodeCommand word) = commandKey word := by
  unfold decodeCommand
  split
  case h_7 =>
    have hword : 6 ≤ word.toNat := by
      simp only [imp_false] at *
      omega
    exact ⟨decide_eq_true hword, rfl⟩
  all_goals
    next hword => exact ⟨rfl, congrArg commandKey (BitVec.eq_of_toNat_eq hword.symm)⟩

theorem wf_and_encode_decodeWrite (idx : Index) (data : Word) :
    (decodeWrite idx data).wf = true ∧ encode (decodeWrite idx data) = writeKey idx data := by
  unfold decodeWrite
  split
  case h_4 hidx =>
    have hcmd : idx = 3#4 := BitVec.eq_of_toNat_eq hidx
    subst hcmd
    exact wf_and_encode_decodeCommand data
  case h_13 =>
    have hidx : 12 ≤ idx.toNat := by
      simp only [imp_false] at *
      omega
    exact ⟨decide_eq_true hidx, rfl⟩
  all_goals
    next hidx => exact ⟨rfl, congrArg (writeKey · data) (BitVec.eq_of_toNat_eq hidx.symm)⟩

theorem decodeKey_of_write {k : Key} (h : keyWe k = true) : decodeKey k = decodeWrite (keyIndex k) (keyData k) := by
  simp [decodeKey, h]

/-- Settles O2, by the direction of the key: a write is made of its three fields, a read keeps its index only. -/
theorem encodeOfDecodeIsTheKey : Obligations.EncodeOfDecodeIsTheKey := by
  intro k
  cases hwe : keyWe k with
  | false =>
    rw [Machine.decodeKey_of_read hwe]
    exact ⟨wf_decodeRead (keyIndex k), encode_decodeRead (keyIndex k)⟩
  | true =>
    have hkey : writeKey (keyIndex k) (keyData k) = k := by rw [writeKey, ← hwe, mkKey_fields]
    obtain ⟨hwf, hencode⟩ := wf_and_encode_decodeWrite (keyIndex k) (keyData k)
    rw [decodeKey_of_write hwe]
    exact ⟨hwf, hencode.trans hkey⟩

/-! The opcode table (R85). -/

/-- Rows that share a key agree where both of them look. -/
theorem patterns_agree_of_fits {r q : OpcodeRow} {k : Key} (hr : r.fits k = true) (hq : q.fits k = true) :
    r.pattern &&& q.mask = q.pattern &&& r.mask := by
  have hr : k &&& r.mask = r.pattern := beq_iff_eq.mp hr
  have hq : k &&& q.mask = q.pattern := beq_iff_eq.mp hq
  rw [← hr, ← hq, BitVec.and_assoc, BitVec.and_assoc, BitVec.and_comm r.mask]

/-- No two exact rows fit one key. -/
theorem exactRow_unique {r q : OpcodeRow} {k : Key} (hr : r ∈ exactRows) (hq : q ∈ exactRows) (hrk : r.fits k = true)
    (hqk : q.fits k = true) : r = q := by
  have hrows : ∀ r ∈ exactRows, ∀ q ∈ exactRows, r.pattern &&& q.mask = q.pattern &&& r.mask → r = q := by decide
  exact hrows r hr q hq (patterns_agree_of_fits hrk hqk)

theorem exactRows_disjoint (k : Key) : exactRows.Pairwise (fun r q => ¬(r.fits k = true ∧ q.fits k = true)) := by
  have hnodup : exactRows.Pairwise (· ≠ ·) := by decide
  exact hnodup.imp_of_mem fun hr hq hne hboth => hne (exactRow_unique hr hq hboth.1 hboth.2)

theorem reservedCommandRow_fits_iff (k : Key) : reservedCommandRow.fits k = true ↔ keyWe k = true ∧ keyIndex k = 3#4 := by
  obtain ⟨we, idx, data, rfl⟩ := exists_mkKey k
  have hfits := row_fits_mkKey "CMD_RSVD" true true 3#4 0xF#4 0#32 0#32 we idx data
  have hindex : idx &&& 0xF#4 = idx := BitVec.and_allOnes
  rw [hindex] at hfits
  exact hfits.trans (by simp)

theorem mask_of_fits_of_reservedCommandRow_fits {r : OpcodeRow} {k : Key} (hr : r ∈ exactRows) (hrk : r.fits k = true)
    (hk : reservedCommandRow.fits k = true) : r.mask = 0x1FFFFFFFFF#37 := by
  have hrows : ∀ r ∈ exactRows, r.pattern &&& reservedCommandRow.mask = reservedCommandRow.pattern &&& r.mask →
      r.mask = 0x1FFFFFFFFF#37 := by decide
  exact hrows r hr (patterns_agree_of_fits hrk hk)

/-- The key of every well-formed instruction fits a row with the instruction's mnemonic. -/
theorem rowFits_of_instr : ∀ i : Instr, Laws.RowFits.Statement i
  | .rdId => Laws.RowFits.rdId
  | .rdCfg => Laws.RowFits.rdCfg
  | .rdCtrl => Laws.RowFits.rdCtrl
  | .rdCmd => Laws.RowFits.rdCmd
  | .rdStatus => Laws.RowFits.rdStatus
  | .rdDivPush => Laws.RowFits.rdDivPush
  | .rdMsgPush => Laws.RowFits.rdMsgPush
  | .rdDivLen => Laws.RowFits.rdDivLen
  | .rdMsgLen => Laws.RowFits.rdMsgLen
  | .rdResult => Laws.RowFits.rdResult
  | .rdRlen => Laws.RowFits.rdRlen
  | .rdSteps => Laws.RowFits.rdSteps
  | .wrId data => Laws.RowFits.wrId data
  | .wrCfg data => Laws.RowFits.wrCfg data
  | .wrCtrl data => Laws.RowFits.wrCtrl data
  | .wrStatus data => Laws.RowFits.wrStatus data
  | .wrDivPush data => Laws.RowFits.wrDivPush data
  | .wrMsgPush data => Laws.RowFits.wrMsgPush data
  | .wrDivLen data => Laws.RowFits.wrDivLen data
  | .wrMsgLen data => Laws.RowFits.wrMsgLen data
  | .wrResult data => Laws.RowFits.wrResult data
  | .wrRlen data => Laws.RowFits.wrRlen data
  | .wrSteps data => Laws.RowFits.wrSteps data
  | .rdRsvd idx => Laws.RowFits.rdRsvd idx
  | .wrRsvd idx data => Laws.RowFits.wrRsvd idx data
  | .nop => Laws.RowFits.nop
  | .clear => Laws.RowFits.clear
  | .start => Laws.RowFits.start
  | .clrMsg => Laws.RowFits.clrMsg
  | .clrDiv => Laws.RowFits.clrDiv
  | .ack => Laws.RowFits.ack
  | .cmdRsvd word => Laws.RowFits.cmdRsvd word

/-- A row that fits a read without DATA fits it with any DATA, because the mask of a read's row leaves DATA out (R82). -/
theorem fits_of_fits_readKey {r : OpcodeRow} (hr : r ∈ opcodeRows) {idx : Index} (h : r.fits (readKey idx) = true) (data : Word) :
    r.fits (mkKey false idx data) = true := by
  have hrows : ∀ r ∈ opcodeRows, keyWe r.pattern = false → 0x1F00000000#37 &&& r.mask = r.mask := by decide
  have hfits : readKey idx &&& r.mask = r.pattern := beq_iff_eq.mp h
  have hread : keyWe r.pattern = false := by
    rw [← hfits, keyWe, BitVec.getLsbD_and, readKey, mkKey_getLsbD]
    simp
  have hfields : mkKey false idx data &&& 0x1F00000000#37 = readKey idx := by
    have hindex : idx &&& 0xF#4 = idx := BitVec.and_allOnes
    have hand := mkKey_and false true idx 0xF#4 data 0#32
    rwa [hindex, BitVec.and_zero] at hand
  refine beq_iff_eq.mpr ?_
  rw [← hrows r hr hread, ← BitVec.and_assoc, hfields, hfits]

/-- Every key fits a row with the mnemonic of the instruction it decodes to. -/
theorem exists_row_fits (k : Key) : ∃ r ∈ opcodeRows, r.mnemonic = (decodeKey k).mnemonic ∧ r.fits k = true := by
  obtain ⟨hwf, hencode⟩ := encodeOfDecodeIsTheKey k
  obtain ⟨r, hr, hname, hfits⟩ := rowFits_of_instr (decodeKey k) hwf
  refine ⟨r, hr, hname, ?_⟩
  rw [hencode] at hfits
  by_cases hwe : keyWe k = true
  · rwa [if_pos hwe] at hfits
  · rw [if_neg hwe] at hfits
    have hread := fits_of_fits_readKey hr hfits (keyData k)
    rwa [← Bool.eq_false_of_not_eq_true hwe, mkKey_fields] at hread

theorem mem_opcodeRows_iff (r : OpcodeRow) : r ∈ opcodeRows ↔ r ∈ exactRows ∨ r = reservedCommandRow := by
  simp [opcodeRows]

/-- An exact row names the decoded instruction of every key it fits. Where CMD_RSVD's row is the instruction's own, the exact row
has the full mask, so the key is that row's command word and the row its own after all. -/
theorem mnemonic_of_exactRow_fits {r : OpcodeRow} {k : Key} (hr : r ∈ exactRows) (hrk : r.fits k = true) :
    r.mnemonic = (decodeKey k).mnemonic := by
  obtain ⟨q, hq, hname, hqk⟩ := exists_row_fits k
  rcases (mem_opcodeRows_iff q).mp hq with hexact | rfl
  · rw [exactRow_unique hr hexact hrk hqk, hname]
  · have hmask : r.mask = 0x1FFFFFFFFF#37 := mask_of_fits_of_reservedCommandRow_fits hr hrk hqk
    have hkey : k = r.pattern := by
      have hfits : k &&& r.mask = r.pattern := beq_iff_eq.mp hrk
      rw [hmask] at hfits
      exact BitVec.and_allOnes.symm.trans hfits
    have hcommands : ∀ r ∈ exactRows, r.mask = 0x1FFFFFFFFF#37 → r.mnemonic = (decodeKey r.pattern).mnemonic := by decide
    rw [hkey]
    exact hcommands r hr hmask

/-- The first row that fits names the decoded instruction: an exact one by the lemma above, and CMD_RSVD because no exact row fits
and some row does. -/
theorem selectRow_mnemonic (k : Key) : (selectRow k).map (fun r => r.mnemonic) = some (decodeKey k).mnemonic := by
  obtain ⟨q, hq, hname, hqk⟩ := exists_row_fits k
  unfold selectRow opcodeRows
  rw [List.find?_append]
  cases hexact : exactRows.find? (fun r => r.fits k) with
  | some r =>
    have hrk : r.fits k = true := List.find?_some (p := fun r : OpcodeRow => r.fits k) hexact
    exact congrArg some (mnemonic_of_exactRow_fits (List.mem_of_find?_eq_some hexact) hrk)
  | none =>
    have hnone : ∀ r ∈ exactRows, ¬r.fits k = true := List.find?_eq_none.mp hexact
    rcases (mem_opcodeRows_iff q).mp hq with hmem | rfl
    · exact absurd hqk (hnone q hmem)
    · simp [hqk, hname]

/-- Settles O3: disjointness and the overlap with CMD_RSVD are facts about the patterns and masks of the table; the first row that
fits is the row of the decoded instruction. -/
theorem firstFittingRowNamesTheInstruction : Obligations.FirstFittingRowNamesTheInstruction := fun k =>
  ⟨exactRows_disjoint k, reservedCommandRow_fits_iff k, fun _ hr hrk hk => mask_of_fits_of_reservedCommandRow_fits hr hrk hk,
    selectRow_mnemonic k⟩

/-! Words of the table (R80). -/

theorem keyOfNat_toNat (k : Key) : keyOfNat k.toNat = some k := by
  rw [keyOfNat, if_pos k.isLt, BitVec.ofNat_toNat, BitVec.setWidth_eq]

/-- The number of a key, as a table word of 40 bits, decodes as the key. -/
theorem decodeTableWord_of_key {w : Nat} {k : Key} (h : w = k.toNat) : decodeTableWord 40 w = some (decodeKey k) := by
  have hfit : tableNat 40 w = k.toNat := by
    have hlt : k.toNat < 2 ^ 37 := k.isLt
    rw [tableNat]
    omega
  rw [decodeTableWord, decode, hfit, keyOfNat_toNat]
  rfl

theorem decodeTableWord_eq_none {nbits w : Nat} (h : 2 ^ 37 ≤ tableNat nbits w) : decodeTableWord nbits w = none := by
  rw [decodeTableWord, decode, keyOfNat, if_neg (Nat.not_lt.mpr h)]
  rfl

/-- Settles O4: each word is the number of the key of the fields written here, and the last has bit 37 set. -/
theorem writtenOutWordsDecode : Obligations.WrittenOutWordsDecode :=
  ⟨decodeTableWord_of_key (k := readKey 4#4) rfl,
   decodeTableWord_of_key (k := readKey 13#4) rfl,
   decodeTableWord_of_key (k := writeKey 2#4 1#32) rfl,
   decodeTableWord_of_key (k := writeKey 5#4 0x80000001#32) rfl,
   decodeTableWord_of_key (k := writeKey 6#4 2#32) rfl,
   decodeTableWord_of_key (k := commandKey 2#32) rfl,
   decodeTableWord_of_key (k := commandKey 5#32) rfl,
   decodeTableWord_of_key (k := commandKey 0x80000002#32) rfl,
   decodeTableWord_of_key (k := writeKey 15#4 1#32) rfl,
   decodeTableWord_eq_none (by decide)⟩

end Sys2Proof

/-! ### Keys and the rows they match (30_encoding.md R80 to R85) -/

namespace Sys2Proof.Machine

/-- A row that leaves DATA out fixes WE and, of IDX, the bits in its mask. -/
theorem fields_of_masked {k : Key} {we : Bool} {idx mask : Index} (h : k &&& mkKey true mask 0#32 = mkKey we idx 0#32) :
    keyWe k = we ∧ keyIndex k &&& mask = idx := by
  rw [← mkKey_fields k, mkKey_and, mkKey_inj, Bool.and_true] at h
  obtain ⟨hwe, hidx, -⟩ := h
  exact ⟨hwe, hidx⟩

/-- The mask of a register's row holds the whole of IDX. -/
theorem fields_of_register_row {k : Key} {we : Bool} {idx : Index} (h : k &&& 0x1F00000000#37 = mkKey we idx 0#32) :
    keyWe k = we ∧ keyIndex k = idx := by
  obtain ⟨hwe, hidx⟩ := fields_of_masked (mask := 0xF#4) h
  exact ⟨hwe, BitVec.and_allOnes.symm.trans hidx⟩

/-- The mask of a reserved row holds the upper two bits of IDX, which the indices 12 to 15 have set. -/
theorem fields_of_reserved_row {k : Key} {we : Bool} (h : k &&& 0x1C00000000#37 = mkKey we 0xC#4 0#32) :
    keyWe k = we ∧ reservedIndex (keyIndex k) = true := by
  have hreserved : ∀ idx : Index, idx &&& 0xC#4 = 0xC#4 → reservedIndex idx = true := by decide
  obtain ⟨hwe, hupper⟩ := fields_of_masked (mask := 0xC#4) h
  exact ⟨hwe, hreserved _ hupper⟩

/-- The keys of the row of a read. -/
theorem keysDecodeTo_read (idx : Index) : KeysDecodeTo (readKey idx) 0x1F00000000#37 (fun _ => decodeRead idx) := by
  intro k hk
  obtain ⟨hwe, hidx⟩ := fields_of_register_row hk
  rw [decodeKey_of_read hwe, hidx]

/-- The keys of the row of a write. -/
theorem keysDecodeTo_write (idx : Index) : KeysDecodeTo (writeKey idx 0#32) 0x1F00000000#37 (decodeWrite idx) := by
  intro k hk
  obtain ⟨hwe, hidx⟩ := fields_of_register_row hk
  rw [decodeKey_of_write hwe, hidx]

/-- The one key of the row of a command. -/
theorem keysDecodeTo_command (word : Word) :
    KeysDecodeTo (commandKey word) 0x1FFFFFFFFF#37 (fun _ => decodeCommand word) := by
  intro k hk
  have hkey : k = commandKey word := BitVec.and_allOnes.symm.trans hk
  rw [hkey, decodeKey_commandKey]

theorem decodeKey_of_reserved_read {k : Key} (h : k &&& 0x1C00000000#37 = 0x0C00000000#37) :
    decodeKey k = .rdRsvd (keyIndex k) := by
  obtain ⟨hwe, hidx⟩ := fields_of_reserved_row (we := false) h
  rw [decodeKey_of_read hwe, decodeRead_of_reserved hidx]

theorem decodeKey_of_reserved_write {k : Key} (h : k &&& 0x1C00000000#37 = 0x1C00000000#37) :
    decodeKey k = .wrRsvd (keyIndex k) (keyData k) := by
  obtain ⟨hwe, hidx⟩ := fields_of_reserved_row (we := true) h
  rw [decodeKey_of_write hwe, decodeWrite_of_reserved hidx]

end Sys2Proof.Machine

/-! ### The words that registers read as (10_state.md R28 to R39) -/

namespace Sys2Proof.Machine

/-- A flag stands at its own bit alone. -/
theorem flagAt_getLsbD (b : Bool) (n i : Nat) : (flagAt b n).getLsbD i = (decide (i < 32 ∧ i = n) && b) := by
  rw [flagAt, BitVec.getLsbD_shiftLeft, BitVec.getLsbD_setWidth, BitVec.getLsbD_ofBool]
  grind

theorem flagAt_zero (b : Bool) : flagAt b 0 = if b then 1#32 else 0#32 := by
  cases b <;> rfl

/-- The table of R32: the flag that each bit of STATUS shows. -/
def State.statusBit (s : State) : Nat → Bool
  | 0 => s.busy
  | 1 => s.done
  | 2 => s.errInvDiv
  | 3 => s.errInvBit
  | 4 => s.errCap
  | 5 => s.errBusy
  | 6 => s.errCmd
  | 7 => s.irq
  | 8 => s.msgBad
  | 9 => s.divBad
  | 10 => s.msgOvf
  | 11 => s.divOvf
  | _ => false

theorem statusBit_of_le (s : State) {i : Nat} (h : 12 ≤ i) : s.statusBit i = false := by
  unfold State.statusBit
  split
  case h_13 => rfl
  all_goals omega

theorem status_getLsbD (s : State) (i : Nat) : s.status.getLsbD i = s.statusBit i := by
  simp only [State.status, BitVec.getLsbD_or, flagAt_getLsbD, errorCode]
  obtain hlow | hhigh := Nat.lt_or_ge i 12
  · interval_cases i <;> simp [State.statusBit]
  · have hne : ∀ n < 12, decide (i < 32 ∧ i = n) = false := fun n hn => decide_eq_false (by omega)
    simp [hne, statusBit_of_le s hhigh]

theorem busy_eq_decide (s : State) : s.busy = decide (s.eng = .run) := by
  rw [State.busy]
  cases s.eng <;> rfl

/-- The two capacities do not overlap in CFG: DIV_CAP is below bit 16. -/
theorem cfgWord_toNat {s : State} (h : s.cfg.Legal) : s.cfgWord.toNat = 65536 * s.cfg.msgCap + s.cfg.divCap := by
  obtain ⟨⟨-, hdiv⟩, -, hmsg⟩ := h
  have hlow : s.cfg.divCap < 2 ^ 16 := by omega
  have hor : s.cfg.msgCap <<< 16 ||| s.cfg.divCap = 65536 * s.cfg.msgCap + s.cfg.divCap := by
    rw [← Nat.shiftLeft_add_eq_or_of_lt hlow, Nat.shiftLeft_eq, Nat.mul_comm]
  rw [State.cfgWord, BitVec.toNat_or, BitVec.toNat_shiftLeft, BitVec.toNat_ofNat, BitVec.toNat_ofNat,
    Nat.mod_eq_of_lt (by omega), Nat.mod_eq_of_lt (by omega), Nat.mod_eq_of_lt (by omega), hor]

end Sys2Proof.Machine

/-! ### Register transactions (40_host_access.md R100 to R124) -/

namespace Sys2Proof.Machine

/-- Settles O10: each of these reads replies with its constant. -/
theorem constantReadsReturnTheirValue : Obligations.ConstantReadsReturnTheirValue :=
  ⟨⟨keysDecodeTo_read 0#4, fun _ => rfl⟩, ⟨keysDecodeTo_read 3#4, fun _ => rfl⟩, ⟨keysDecodeTo_read 5#4, fun _ => rfl⟩,
    ⟨keysDecodeTo_read 6#4, fun _ => rfl⟩, ⟨fun _ => decodeKey_of_reserved_read, fun _ _ => rfl⟩⟩

/-- Settles O11: each of these reads replies with its register's word; CFG, CTRL and RLEN are words made of a field. -/
theorem registerReadsReturnTheirFields : Obligations.RegisterReadsReturnTheirFields := by
  refine ⟨⟨keysDecodeTo_read 1#4, fun s => ⟨s.cfgWord, rfl, cfgWord_toNat⟩⟩, ⟨keysDecodeTo_read 2#4, fun s => ?_⟩,
    ⟨keysDecodeTo_read 7#4, fun _ => rfl⟩, ⟨keysDecodeTo_read 8#4, fun _ => rfl⟩, ⟨keysDecodeTo_read 9#4, fun _ => rfl⟩,
    ⟨keysDecodeTo_read 10#4, fun s => ?_⟩, ⟨keysDecodeTo_read 11#4, fun _ => rfl⟩⟩
  · rw [← flagAt_zero]
    rfl
  · rw [BitVec.ofNat_toNat]
    rfl

/-- Settles O12: the read replies with STATUS, whose bits are R32's table. -/
theorem statusReadShowsEveryFlag : Obligations.StatusReadShowsEveryFlag := by
  refine ⟨keysDecodeTo_read 4#4, fun s => ⟨s.status, rfl, ?_⟩⟩
  simp only [status_getLsbD]
  exact ⟨busy_eq_decide s, rfl, rfl, rfl, rfl, rfl, rfl, rfl, rfl, rfl, rfl, rfl, fun _ => statusBit_of_le s⟩

/-- Settles O14: none of these writes is given an effect, and each key with WE = 1 and its index, or NOP's whole word, decodes to
it. -/
theorem noEffectWritesChangeNothing : Obligations.NoEffectWritesChangeNothing :=
  ⟨⟨keysDecodeTo_write 0#4, fun _ _ => rfl⟩, ⟨keysDecodeTo_write 1#4, fun _ _ => rfl⟩,
    ⟨keysDecodeTo_write 4#4, fun _ _ => rfl⟩, ⟨keysDecodeTo_write 7#4, fun _ _ => rfl⟩,
    ⟨keysDecodeTo_write 8#4, fun _ _ => rfl⟩, ⟨keysDecodeTo_write 9#4, fun _ _ => rfl⟩,
    ⟨keysDecodeTo_write 10#4, fun _ _ => rfl⟩, ⟨keysDecodeTo_write 11#4, fun _ _ => rfl⟩,
    ⟨fun _ => decodeKey_of_reserved_write, fun _ _ _ => rfl⟩, ⟨keysDecodeTo_command 0#32, fun _ => rfl⟩⟩

/-- Settles O15: the next state is s with the new enable, and IRQ is bit 7 of every STATUS word. -/
theorem ctrlWriteSetsTheEnableOnly : Obligations.CtrlWriteSetsTheEnableOnly :=
  ⟨keysDecodeTo_write 2#4, fun data s => ⟨{ s with ie := ctrlEnable data }, rfl, rfl, rfl, status_getLsbD _ 7⟩⟩

theorem exec_wrDivPush_idle {s : State} (h : s.eng = .idle) (data : Word) :
    exec (.wrDivPush data) s = .next (s.appendDiv data) :=
  congrArg Host.Outcome.next (unlessBusy_idle s (fun t => t.appendDiv data) h)

theorem exec_wrMsgPush_idle {s : State} (h : s.eng = .idle) (data : Word) :
    exec (.wrMsgPush data) s = .next (s.appendMsg data) :=
  congrArg Host.Outcome.next (unlessBusy_idle s (fun t => t.appendMsg data) h)

/-- Settles O16, by whether the store is full. -/
theorem divPushAppendsOrFlags : Obligations.DivPushAppendsOrFlags := by
  refine ⟨keysDecodeTo_write 5#4, fun data s hidle => ?_⟩
  rw [exec_wrDivPush_idle hidle]
  by_cases hfull : s.divLen = s.cfg.divCap
  · rw [appendDiv_full s data hfull]
    simp [hfull, symbolValid, Bool.or_comm]
  · rw [appendDiv_room s data hfull]
    simp [hfull, symbolValid, symbolBit, Bool.or_comm]

/-- Settles O17, by whether the store is full. -/
theorem msgPushAppendsOrFlags : Obligations.MsgPushAppendsOrFlags := by
  refine ⟨keysDecodeTo_write 6#4, fun data s hidle => ?_⟩
  rw [exec_wrMsgPush_idle hidle]
  by_cases hfull : s.msgLen = s.cfg.msgCap
  · rw [appendMsg_full s data hfull]
    simp [hfull, symbolValid, Bool.or_comm]
  · rw [appendMsg_room s data hfull]
    simp [hfull, symbolValid, symbolBit, Bool.or_comm]

end Sys2Proof.Machine

/-! ### Commands (41_commands.md R130 to R137) -/

namespace Sys2Proof.Machine

/-! The event flags, as irq and STATUS show them. -/

/-- A raised error holds irq at the enable (60_exceptions.md R190). -/
@[simp] theorem raise_irq (s : State) (e : ErrorFlag) : (s.raise e).irq = s.ie := by
  cases e <;> simp [State.irq]

/-- A raised error shows at its code in STATUS (60_exceptions.md R180). -/
theorem raise_status_getLsbD (s : State) (e : ErrorFlag) : (s.raise e).status.getLsbD (errorCode e) = true := by
  rw [status_getLsbD]
  cases e <;> rfl

@[simp] theorem clearEvents_irq (s : State) : s.clearEvents.irq = false := by
  simp [State.irq]

/-- ACK leaves the inputs that validation looks at. -/
@[simp] theorem clearEvents_rejectsStart (s : State) : s.clearEvents.rejectsStart = s.rejectsStart := rfl

/-- While RUN a well-formed state has no flags but ERR_BUSY and ERR_CMD to clear (10_state.md R42(c)). -/
theorem clearEvents_of_run {s : State} (hok : s.RunOk) (hrun : s.eng = .run) :
    s.clearEvents = { s with errBusy := false, errCmd := false } := by
  obtain ⟨-, -, hdone, ⟨hinvDiv, hinvBit, hcap⟩, -⟩ := hok hrun
  simp [State.clearEvents, hdone, hinvDiv, hinvBit, hcap]

theorem status_eq_zero {s : State} (h : ∀ i, s.statusBit i = false) : s.status = 0#32 := by
  refine BitVec.eq_of_getLsbD_eq fun i _ => ?_
  rw [status_getLsbD, h, BitVec.getLsbD_zero]

/-! CLEAR. -/

/-- The state in which CLEAR leaves the block: only the enable and the model's own fields are carried over. -/
def State.cleared (s : State) : State := { State.resetWith s.cfg with ie := s.ie, inputs := s.inputs, replies := s.replies }

theorem exec_clear (s : State) : exec .clear s = .next s.cleared := rfl

theorem cleared_irq (s : State) : s.cleared.irq = false := Bool.and_false _

theorem cleared_status (s : State) : s.cleared.status = 0#32 := by
  refine status_eq_zero fun i => ?_
  unfold State.statusBit
  split
  case h_8 => exact cleared_irq s
  all_goals rfl

/-- The engine writes none of the fields that CLEAR carries over. -/
theorem cleared_of_engineStep {s u : State} (h : engineStep s = .next u) : u.cleared = s.cleared := by
  obtain ⟨-, rfl⟩ | ⟨-, -, rfl⟩ | ⟨-, -, rfl⟩ := engineStep_next_cases h
  · rfl
  · rfl
  · rfl

/-- Settles O19: what CLEAR answers depends on no field that the engine writes, so it is the same before or after its step. -/
theorem clearEmptiesTheBlock : Obligations.ClearEmptiesTheBlock := by
  refine ⟨keysDecodeTo_command 1#32, fun s => ?_⟩
  refine ⟨s.cleared, exec_clear s, rfl, cleared_irq s, cleared_status s, fun u hu => ?_⟩
  rw [exec_clear, cleared_of_engineStep hu]

/-! ACK. -/

/-- Settles O21: ACK is clearEvents, whose effect on a running computation R42(c) bounds. -/
theorem ackClearsDoneAndErrors : Obligations.AckClearsDoneAndErrors := by
  refine ⟨keysDecodeTo_command 5#32, fun s => ?_⟩
  refine ⟨s.clearEvents, rfl, rfl, clearEvents_irq s, fun hinv hrun => ?_, clearEvents_rejectsStart s⟩
  obtain ⟨-, -, hok, -⟩ := hinv
  exact clearEvents_of_run hok hrun

/-! CLR_MSG and CLR_DIV. -/

theorem exec_clrMsg (s : State) : exec .clrMsg s = .next (s.unlessBusy State.emptyMsg) := rfl

theorem exec_clrDiv (s : State) : exec .clrDiv s = .next (s.unlessBusy State.emptyDiv) := rfl

/-- Settles O22, by the guard: the store is emptied while IDLE, and the write is rejected while RUN. -/
theorem storeClearsEmptyTheirStore : Obligations.StoreClearsEmptyTheirStore := by
  refine ⟨⟨keysDecodeTo_command 3#32, fun s => ⟨fun hidle => ?_, fun hrun => ?_⟩⟩,
    ⟨keysDecodeTo_command 4#32, fun s => ⟨fun hidle => ?_, fun hrun => ?_⟩⟩⟩
  · rw [exec_clrMsg, unlessBusy_idle s _ hidle, State.emptyMsg]
  · rw [exec_clrMsg, unlessBusy_run s _ hrun, State.raise]
  · rw [exec_clrDiv, unlessBusy_idle s _ hidle, State.emptyDiv]
  · rw [exec_clrDiv, unlessBusy_run s _ hrun, State.raise]

/-! Reserved command words. -/

/-- Every key of CMD_RSVD's row whose word is none of the six commands decodes to CMD_RSVD. -/
theorem decodeKey_of_reserved_command {k : Key} (h : k &&& 0x1F00000000#37 = 0x1300000000#37)
    (hword : 6 ≤ (keyData k).toNat) : decodeKey k = .cmdRsvd (keyData k) :=
  (keysDecodeTo_write 3#4 k h).trans (decodeCommand_of_reserved (decide_eq_true hword))

/-- Settles O23: a reserved word raises ERR_CMD, which STATUS and irq show. -/
theorem reservedCommandSetsErrCmd : Obligations.ReservedCommandSetsErrCmd := by
  refine ⟨fun _ => decodeKey_of_reserved_command, fun word s => ?_⟩
  exact ⟨s.raise .cmd, rfl, rfl, raise_status_getLsbD s .cmd, fun hie => (raise_irq s .cmd).trans hie⟩

/-! START. -/

/-- Settles O24: the hypotheses say that validation passes, and what a valid START leaves is written out by definition. -/
theorem validStartBeginsARun : Obligations.ValidStartBeginsARun := by
  refine ⟨keysDecodeTo_command 2#32, fun s hidle hlen hhead hmsgBad hdivBad hmsgOvf hdivOvf => ?_⟩
  have hok : s.rejectsStart = false :=
    (rejectsStart_eq_false s).mpr ⟨⟨hlen, hhead⟩, hmsgBad, hdivBad, hmsgOvf, hdivOvf⟩
  exact exec_start_valid hidle hok

end Sys2Proof.Machine

/-! ### Zeros: the scan, the padding and the all-zero remainder (42_engine.md R156 to R160) -/

namespace Sys2Proof.Machine

/-- Settles O34: what the scan counts and what the padding adds is a block of leading zeros. -/
theorem dropAndPadKeepThePolynomial : Obligations.DropAndPadKeepThePolynomial := by
  refine ⟨fun r w b hb => ?_, poly_drop_leadingZeroScan, poly_zeros_append⟩
  rw [take_leadingZeroScan] at hb
  exact List.eq_of_mem_replicate hb

/-- Only sequences of zeros have the polynomial 0: a leading 1 makes a polynomial monic. -/
theorem poly_eq_zero_iff (S : List Bool) : poly S = 0 ↔ ∀ b ∈ S, b = false := by
  induction S with
  | nil => simp
  | cons b S ih =>
    cases b with
    | false => simp [poly_cons, ih]
    | true =>
      have hmonic : (poly (true :: S)).Monic := monic_poly rfl
      simp [hmonic.ne_zero]

@[simp] theorem bitsToNat_replicate_false (r : Nat) : bitsToNat (List.replicate r false) = 0 := by
  induction r with
  | zero => rfl
  | succ r ih => rw [List.replicate_succ', bitsToNat_append_singleton, ih]; rfl

@[simp] theorem pack_replicate_false (r : Nat) : pack (List.replicate r false) = 0#32 := by
  simp [pack]

/-- A word below 2^r whose low r bits are all 0 is 0. -/
theorem eq_zero_of_remainderBits {r : Nat} {v : Word} (hlt : v.toNat < 2 ^ r) (hbits : ∀ b ∈ remainderBits r v, b = false) :
    v = 0#32 := by
  refine BitVec.eq_of_getLsbD_eq fun i _ => ?_
  rw [BitVec.getLsbD_zero]
  obtain hi | hi := Nat.lt_or_ge i r
  · refine hbits _ (List.mem_map.mpr ⟨r - 1 - i, List.mem_range.mpr (by omega), ?_⟩)
    rw [show r - 1 - (r - 1 - i) = i by omega]
  · exact Nat.testBit_lt_two_pow (hlt.trans_le (Nat.pow_le_pow_right Nat.two_pos hi))

/-- A scan that ends before its sequence does has met a 1. -/
theorem getElem?_leadingZeros {w : List Bool} (h : leadingZeros w < w.length) : w[leadingZeros w]? = some true := by
  induction w with
  | nil => simp at h
  | cons b w ih =>
    cases b with
    | true => rfl
    | false => simpa using ih (by simpa using h)

theorem getElem?_of_lt_leadingZeroScan {r i : Nat} {w : List Bool} (hi : i < leadingZeroScan r w) :
    w[i]? = some false := by
  rw [← List.getElem?_take_of_lt hi, take_leadingZeroScan, List.getElem?_replicate, if_pos hi]

theorem getElem?_leadingZeroScan {r : Nat} {w : List Bool} (hw : r ≤ w.length) (hlt : leadingZeroScan r w < r) :
    w[leadingZeroScan r w]? = some true := by
  have hlen : (w.take r).length = r := List.length_take_of_le hw
  rw [← List.getElem?_take_of_lt hlt]
  exact getElem?_leadingZeros (by rwa [hlen])

@[simp] theorem leadingZeros_replicate_false (r : Nat) : leadingZeros (List.replicate r false) = r := by
  induction r with
  | zero => rfl
  | succ r ih => rw [List.replicate_succ, leadingZeros_false, ih]

/-- A scan of zeros alone stops at its width (R171). -/
theorem leadingZeroScan_zeros_append (r : Nat) (v : List Bool) : leadingZeroScan r (List.replicate r false ++ v) = r := by
  rw [leadingZeroScan, List.take_left' (List.length_replicate ..), leadingZeros_replicate_false]

end Sys2Proof.Machine

/-! ### The window XOR, element by element (42_engine.md R155) -/

namespace Sys2Proof.Machine

theorem windowXor_getElem?_of_lt {n i : Nat} {d w : List Bool} (hd : n ≤ d.length) (hw : n ≤ w.length) (hi : i < n) :
    (windowXor n d w)[i]? = some (w.getD i false ^^ d.getD i false) := by
  have hid : i < d.length := by omega
  have hiw : i < w.length := by omega
  have hlen : i < (List.zipWith (fun a b => a ^^ b) (w.take n) (d.take n)).length := by simp; omega
  rw [windowXor, List.getElem?_append_left hlen, List.getElem?_eq_getElem hlen]
  simp [hid, hiw]

theorem windowXor_getElem?_of_le {n i : Nat} {d w : List Bool} (hd : n ≤ d.length) (hw : n ≤ w.length) (hi : n ≤ i) :
    (windowXor n d w)[i]? = w[i]? := by
  have hlen : (List.zipWith (fun a b => a ^^ b) (w.take n) (d.take n)).length = n := by simp; omega
  rw [windowXor, List.getElem?_append_right (by omega), hlen, List.getElem?_drop, Nat.add_sub_cancel' hi]

/-- The same XOR twice restores the buffer (R161). -/
theorem windowXor_windowXor {n : Nat} {d w : List Bool} (hd : n ≤ d.length) (hw : n ≤ w.length) :
    windowXor n d (windowXor n d w) = w := by
  have hlen : n ≤ (windowXor n d w).length := by rwa [windowXor_length n d w hd hw]
  refine List.ext_getElem? fun i => ?_
  obtain hi | hi := Nat.lt_or_ge i n
  · have hiw : i < w.length := by omega
    rw [windowXor_getElem?_of_lt hd hlen hi, List.getD_eq_getElem?_getD, windowXor_getElem?_of_lt hd hw hi]
    simp [hiw]
  · rw [windowXor_getElem?_of_le hd hlen hi, windowXor_getElem?_of_le hd hw hi]

theorem zipWith_xor_self (w : List Bool) : List.zipWith (fun a b => a ^^ b) w w = List.replicate w.length false := by
  induction w with
  | nil => rfl
  | cons b w ih => rw [List.zipWith_cons_cons, ih, Bool.xor_self, List.length_cons, List.replicate_succ]

/-- A window that agrees with the divisor but for its last bit leaves r zeros and that bit's XOR (R171). -/
theorem windowXor_dropLast_append {d : List Bool} (hd : d ≠ []) (b : Bool) (v : List Bool) :
    windowXor d.length d (d.dropLast ++ b :: v) =
      List.replicate (d.length - 1) false ++ (b ^^ d.getLastD false) :: v := by
  obtain ⟨e, c, rfl⟩ : ∃ e c, d = e ++ [c] := ⟨_, _, (List.dropLast_append_getLast hd).symm⟩
  have hsplit : e ++ b :: v = (e ++ [b]) ++ v := by simp
  rw [List.dropLast_concat, hsplit, windowXor_append _ _ _ (by simp), List.zipWith_append rfl, zipWith_xor_self]
  simp

end Sys2Proof.Machine

/-! ### Single engine steps (42_engine.md R150 to R158, R161, R169, R171) -/

namespace Sys2Proof.Machine

/-- Settles O28. -/
theorem idleEngineHasNoStep : Obligations.IdleEngineHasNoStep :=
  fun _ => engineStep_idle

theorem engineStep_of_range {s : State} (hrun : s.eng = .run) (hone : 1 ≤ s.divLen) (hlen : s.divLen = s.D.length)
    (hcap : s.divLen ≤ 33) : engineStep s = .next s.engineRun := by
  have hrange : s.engineInRange = true := (engineInRange_iff s).mpr ⟨hone, hlen, hcap⟩
  simp [engineStep, hrun, hrange]

/-- Settles O29: the XORed buffer and the count of the scan are the two witnesses. -/
theorem iterateXorsScansAndDrops : Obligations.IterateXorsScansAndDrops := by
  intro s hrun hone hlen hcap hw
  have hxor := windowXor_length s.divLen s.D s.W hlen.le hw
  have hscan := leadingZeroScan_le (s.divLen - 1) (windowXor s.divLen s.D s.W)
  have hwide : s.divLen - 1 ≤ (windowXor s.divLen s.D s.W).length := by omega
  refine ⟨windowXor s.divLen s.D s.W, leadingZeroScan (s.divLen - 1) (windowXor s.divLen s.D s.W), hxor,
    fun i => windowXor_getElem?_of_lt hlen.le hw, fun i => windowXor_getElem?_of_le hlen.le hw, hscan,
    fun _ => getElem?_of_lt_leadingZeroScan, getElem?_leadingZeroScan hwide, ?_, ?_⟩
  · rw [List.length_drop]
    omega
  · have hiterates : s.width < s.W.length := by rw [State.width]; omega
    rw [engineStep_of_range hrun hone hlen hcap, engineRun_of_lt hiterates]
    rfl

/-- A sequence as a number, written out: element i weighs 2^(r-1-i) (R158). -/
theorem bitsToNat_eq_sum (w : List Bool) :
    bitsToNat w = ∑ i ∈ Finset.range w.length, (w.getD i false).toNat * 2 ^ (w.length - 1 - i) := by
  induction w using List.reverseRecOn with
  | nil => rfl
  | append_singleton w b ih =>
    have hfront : ∀ i ∈ Finset.range w.length, ((w ++ [b]).getD i false).toNat * 2 ^ (w.length - i) =
        2 * ((w.getD i false).toNat * 2 ^ (w.length - 1 - i)) := by
      intro i hi
      have hlt : i < w.length := Finset.mem_range.mp hi
      rw [List.getD_append _ _ _ _ hlt, show w.length - i = w.length - 1 - i + 1 by omega, pow_succ]
      ring
    rw [bitsToNat_append_singleton, ih, List.length_append, List.length_singleton, Nat.add_sub_cancel,
      Finset.sum_range_succ, Finset.sum_congr rfl hfront, Finset.mul_sum]
    simp

/-- The bits of a packed word above its width are 0. -/
theorem getLsbD_pack_of_le {w : List Bool} (hw : w.length ≤ 32) {i : Nat} (hi : w.length ≤ i) :
    (pack w).getLsbD i = false := by
  rw [BitVec.getLsbD, pack_toNat w hw]
  exact Nat.testBit_lt_two_pow ((bitsToNat_lt w).trans_le (Nat.pow_le_pow_right Nat.two_pos hi))

/-- Settles O30: with nothing to pad the finish packs W itself. -/
theorem finishPacksTheRemainder : Obligations.FinishPacksTheRemainder := by
  intro s hrun hone hlen hcap hw
  have hwidth : s.W.length = s.width := hw
  have hfits : s.W.length ≤ 32 := by omega
  refine ⟨pack s.W, BitVec.ofNat 6 s.width, s.finish, fun i hi => ?_, fun i => getLsbD_pack_of_le hfits, ?_, ?_, ?_, rfl, ?_⟩
  · rw [getLsbD_pack hfits hi, List.getD_eq_getElem _ _ hi]
  · rw [pack_toNat _ hfits, bitsToNat_eq_sum]
  · rw [BitVec.toNat_ofNat, Nat.mod_eq_of_lt (by omega), ← hwidth, hw]
  · rw [engineStep_of_range hrun hone hlen hcap, engineRun_of_le hwidth.le, State.padFinish, padBuffer_of_length_eq hwidth]
  · simp [State.irq]

/-- Settles O31: a padded buffer has r bits, so the finish finds nothing left to pad. -/
theorem shortBufferIsPaddedAndFinishes : Obligations.ShortBufferIsPaddedAndFinishes := by
  intro s hrun hone hlen hcap hw
  have hshort : s.W.length ≤ s.width := hw.le
  have hpadded : s.padBuffer.W.length = s.padBuffer.width := padBuffer_length s hshort
  refine ⟨s.padFinish, ?_, rfl, rfl, ?_⟩
  · rw [engineStep_of_range hrun hone hlen hcap, engineRun_of_le hshort]
  · change engineStep s.padBuffer = .next s.padBuffer.finish
    rw [engineStep_of_range (s := s.padBuffer) hrun hone hlen hcap, engineRun_of_le hpadded.le, State.padFinish,
      padBuffer_of_length_eq hpadded]

/-- In a well-formed running state |W| ≥ n chooses ITERATE. -/
theorem engineStep_iterates {s : State} (hinv : s.Inv) (hrun : s.eng = .run) (hw : s.width < s.W.length) :
    engineStep s = .next s.iterate := by
  rw [engineStep_run hinv hrun, engineRun_of_lt hw]

/-- |W| ≥ n is |W| > r, the divisor of a running computation not being empty. -/
theorem width_lt_of_divLen_le {s : State} (hinv : s.Inv) (hrun : s.eng = .run) (hw : s.divLen ≤ s.W.length) :
    s.width < s.W.length := by
  obtain ⟨d, -, hwidth, hdiv, -⟩ := exists_divisor_of_run hinv hrun
  omega

/-- Settles O35: a first element 0 becomes 1 and stops the scan at once, so the next window starts with 1. -/
theorem zeroDropIsFollowedByADrop : Obligations.ZeroDropIsFollowedByADrop := by
  intro s hinv hrun hw
  have hwidth := width_lt_of_divLen_le hinv hrun hw
  refine ⟨s.iterate, engineStep_iterates hinv hrun hwidth, rfl, iterate_W_length_lt_of_head_true hinv hrun hwidth,
    fun hhead => ?_⟩
  have hW := iterate_W_of_head_false hinv hrun hhead
  have hone := iterate_head_of_head_false hinv hrun hhead
  have hlen : s.iterate.W.length = s.W.length := by rw [hW, windowXor_length_of_run hinv hwidth]
  have hinv' := iterate_inv hinv hrun
  have hwidth' : s.iterate.width < s.iterate.W.length := by rw [hlen]; exact hwidth
  refine ⟨hlen, hone, ?_, s.iterate.iterate, engineStep_iterates hinv' hrun hwidth', rfl,
    iterate_W_length_lt_of_head_true hinv' hrun hwidth' hone⟩
  obtain ⟨⟨-, -, -, hdiv, -⟩, -⟩ := hinv
  rw [hW, State.iterate_divLen, State.iterate_D, windowXor_windowXor hdiv.le hw]

/-- Settles O36: the XORed window is r zeros and one bit, and the scan stops after the r zeros. -/
theorem allZeroWindowDropsExactlyR : Obligations.AllZeroWindowDropsExactlyR := by
  intro s b v hinv hrun hW
  obtain ⟨d, hD, -, hdiv, -⟩ := exists_divisor_of_run hinv hrun
  have hlen : s.divLen = s.D.length := by rw [hdiv, hD, List.length_cons]
  have hnonempty : s.D ≠ [] := by simp [hD]
  have hwidth : s.width < s.W.length := by
    rw [State.width, hW, List.length_append, List.length_dropLast, List.length_cons]
    omega
  have hnext : s.iterate.W = (b ^^ s.D.getLastD false) :: v := by
    rw [State.iterate_W, hlen, hW, windowXor_dropLast_append hnonempty, State.width, hlen, leadingZeroScan_zeros_append,
      List.drop_left' (List.length_replicate ..)]
  refine ⟨s.iterate, engineStep_iterates hinv hrun hwidth, hnext, fun hb hw => ?_⟩
  have hinv' := iterate_inv hinv hrun
  have hwidth' := width_lt_of_divLen_le hinv' hrun hw
  have hhead : s.iterate.W.head? = some false := by rw [hnext, hb, Bool.xor_self, List.head?_cons]
  refine ⟨s.iterate.iterate, engineStep_iterates hinv' hrun hwidth', ?_⟩
  rw [iterate_W_of_head_false hinv' hrun hhead, windowXor_length_of_run hinv' hwidth']

end Sys2Proof.Machine

/-! ### No fault from a well-formed state (42_engine.md R150) -/

namespace Sys2Proof.Machine

/-- What an engine step makes of a state in which it does not fault. -/
def State.turn (s : State) : State :=
  match s.eng with
  | .idle => s
  | .run => s.engineRun

theorem turn_idle {s : State} (h : s.eng = .idle) : s.turn = s := by rw [State.turn, h]

theorem turn_run {s : State} (h : s.eng = .run) : s.turn = s.engineRun := by rw [State.turn, h]

theorem engineStep_eq_turn {s : State} (hinv : s.Inv) : engineStep s = .next s.turn := by
  cases h : s.eng with
  | idle => rw [turn_idle h, engineStep_idle h]
  | run => rw [turn_run h, engineStep_run hinv h]

/-- What an input answers in a well-formed state: a next state, but for the two inputs that the spec has a model refuse. -/
theorem performInput_answers {s : State} (hinv : s.Inv) (i : Input) :
    (∃ t, performInput i s = .next t) ∨
    (∃ a, i = .busAccess a ∧ a.key = none ∧ performInput i s = .refused .notAWordTransaction) ∨
    (∃ k, i = .transactionInReset k ∧ performInput i s = .refused .transactionDuringReset) := by
  cases i with
  | transaction k =>
    obtain ⟨t, ht, -⟩ := exists_exec_eq_next (decodeKey k) s
    exact .inl ⟨t, ht⟩
  | busAccess a =>
    cases hk : a.key with
    | none => exact .inr (.inl ⟨a, rfl, hk, performBus_of_no_key hk s⟩)
    | some k =>
      obtain ⟨t, ht, -⟩ := exists_exec_eq_next (decodeKey k) s
      exact .inl ⟨t, (performBus_of_key hk s).trans ht⟩
  | transactionInReset k => exact .inr (.inr ⟨k, rfl, rfl⟩)
  | engineTurn => exact .inl ⟨s.turn, engineStep_eq_turn hinv⟩
  | reset => exact .inl ⟨s.resetEvent, rfl⟩

theorem step_answers {s : State} (hinv : s.Inv) :
    (∃ t, step s = .next t) ∨
    (∃ a rest, s.inputs = .busAccess a :: rest ∧ a.key = none ∧ step s = .refused .notAWordTransaction) ∨
    (∃ k rest, s.inputs = .transactionInReset k :: rest ∧ step s = .refused .transactionDuringReset) := by
  cases hin : s.inputs with
  | nil =>
    rw [step_of_nil hin]
    exact .inl ⟨s.turn, engineStep_eq_turn hinv⟩
  | cons i rest =>
    have hinv' : { s with inputs := rest }.Inv := hinv
    rw [step_of_cons hin]
    obtain hnext | ⟨a, rfl, hkey, href⟩ | ⟨k, rfl, href⟩ := performInput_answers hinv' i
    · exact .inl hnext
    · exact .inr (.inl ⟨a, rest, rfl, hkey, href⟩)
    · exact .inr (.inr ⟨k, rest, rfl, href⟩)

/-- Settles O33: each answer of a step in a well-formed state is a next state or one of the two refusals. -/
theorem noStepFaultsInAWellFormedState : Obligations.NoStepFaultsInAWellFormedState := by
  intro s hinv
  obtain ⟨t, ht⟩ | ⟨a, rest, hin, hkey, ht⟩ | ⟨k, rest, hin, ht⟩ := step_answers hinv
  · simp [ht]
  · exact ⟨by simp [ht], fun _ _ => .inl ⟨a, rest, hin, hkey⟩⟩
  · exact ⟨by simp [ht], fun _ _ => .inr ⟨k, rest, hin⟩⟩

end Sys2Proof.Machine

/-! ### The residue along every step, and at the finish (42_engine.md R162, R165) -/

namespace Sys2Proof.Machine

theorem valueOk_of_idle {s : State} (hidle : s.eng = .idle) : s.ValueOk := fun hrun => by
  simp [hidle] at hrun

/-- An instruction leaves the residue of a running computation, leaves the block idle, or begins a run with INIT's buffer. -/
theorem exec_valueOk {i : Instr} {s t : State} (hval : s.ValueOk) (h : exec i s = .next t) : t.ValueOk := by
  cases decidedEffect_of_exec h with
  | read | noEffect | ctrl | rejected | ack | cmdRsvd => exact hval
  | divPush data hidle =>
    obtain ⟨D, n, bad, ovf, heq⟩ := exists_appendDiv_eq s data
    rw [heq]
    exact valueOk_of_idle hidle
  | msgPush data hidle =>
    obtain ⟨M, n, bad, ovf, heq⟩ := exists_appendMsg_eq s data
    rw [heq]
    exact valueOk_of_idle hidle
  | clear => exact valueOk_of_idle rfl
  | startFails hidle =>
    rw [failStart_eq]
    exact valueOk_of_idle hidle
  | startRuns => exact started_valueOk s
  | clrMsg hidle => exact valueOk_of_idle hidle
  | clrDiv hidle => exact valueOk_of_idle hidle

theorem engineStep_valueOk {s t : State} (hinv : s.Inv) (hval : s.ValueOk) (h : engineStep s = .next t) : t.ValueOk := by
  obtain ⟨-, rfl⟩ | ⟨-, -, rfl⟩ | ⟨hrun, hw, rfl⟩ := engineStep_next_cases h
  · exact hval
  · exact valueOk_of_idle rfl
  · exact iterate_valueOk hinv hval hrun hw

theorem step_valueOk {s t : State} (hinv : s.Inv) (hval : s.ValueOk) (h : step s = .next t) : t.ValueOk := by
  obtain ⟨-, hval'⟩ : t.Inv ∧ t.ValueOk :=
    step_keeps (P := fun s => s.Inv ∧ s.ValueOk) (fun _ _ hs => hs)
      (fun _ _ _ ⟨hinv, hval⟩ h => ⟨exec_inv hinv h, exec_valueOk hval h⟩)
      (fun _ _ ⟨hinv, hval⟩ h => ⟨engineStep_inv hinv h, engineStep_valueOk hinv hval h⟩)
      (fun s ⟨hinv, _⟩ => ⟨resetEvent_inv hinv, resetWith_valueOk s.cfg⟩) ⟨hinv, hval⟩ h
  exact hval'

/-- Settles O42: START's padding has the residue, and a window XOR adds a multiple of poly(D). -/
theorem everyStepKeepsTheResidue : Obligations.EveryStepKeepsTheResidue :=
  ⟨poly_append_zeros, fun _ _ _ hidle => exec_valueOk (valueOk_of_idle hidle), poly_windowXor, fun _ _ => step_valueOk⟩

/-- Settles O44: the engine step that leaves RUN is the finish, which delivers the remainder. -/
theorem finishDeliversTheRemainder : Obligations.FinishDeliversTheRemainder := by
  intro s t hinv hval hrun h hidle
  obtain ⟨hwas, -⟩ | ⟨-, hle, rfl⟩ | ⟨-, -, rfl⟩ := engineStep_next_cases h
  · simp [hrun] at hwas
  · exact ⟨padFinish_rlen_toNat hinv, padFinish_remainder hinv hval hrun hle, padFinish_resultFits hinv hle⟩
  · simp [hrun] at hidle

end Sys2Proof.Machine

/-! ### Computations on a fresh block (42_engine.md R169, R170) -/

namespace Sys2Proof.Machine

open Polynomial

theorem loaded_inv {c : Config} {m d : List Bool} (h : ValidInputs c m d) : (State.loaded c m d).Inv := by
  obtain ⟨hlegal, hmsg, -, hdiv, -⟩ := h
  exact inv_of_idle_of_not_done ⟨hlegal, rfl, hmsg, rfl, hdiv⟩ rfl rfl rfl

theorem loaded_rejectsStart {c : Config} {m d : List Bool} (h : ValidInputs c m d) :
    (State.loaded c m d).rejectsStart = false := by
  obtain ⟨-, -, htwo, -, hhead⟩ := h
  exact (rejectsStart_eq_false _).mpr ⟨⟨htwo, hhead⟩, rfl, rfl, rfl, rfl⟩

/-- Settles O37: INIT's buffer is the r zeros of the padding alone, which the first engine step packs. -/
theorem emptyMessageFinishesAtOnce : Obligations.EmptyMessageFinishesAtOnce := by
  intro c d hvalid
  have hinv : { State.loaded c [] d with inputs := [] }.Inv := loaded_inv hvalid
  have hok := loaded_rejectsStart hvalid
  have hstart := step_start_valid (s := State.loaded c [] d) rfl hok rfl
  have hinv' := started_inv hinv hok
  have hW : { State.loaded c [] d with inputs := [] }.started.W = List.replicate (d.length - 1) false := rfl
  have hlen : { State.loaded c [] d with inputs := [] }.started.W.length =
    { State.loaded c [] d with inputs := [] }.started.width := List.length_replicate ..
  refine ⟨_, _, hstart, rfl, hW, ?_, rfl, rfl, ?_, padFinish_rlen_toNat hinv', rfl⟩
  · rw [step_of_nil rfl, engineStep_run hinv' rfl, engineRun_of_le hlen.le]
  · rw [padFinish_result, padBuffer_of_length_eq hlen, hW, pack_replicate_false]

/-- The end of the computation that START begins on a fresh block (00_scope.md R5). -/
theorem loaded_delivers {c : Config} {m d : List Bool} (h : ValidInputs c m d) :
    ∃ t, runSteps (2 * m.length + 2) (State.loaded c m d) = .next t ∧ t.done = true ∧ t.rlen.toNat = d.length - 1 ∧
      poly (remainderBits t.rlen.toNat t.result) = crcRemainder m d ∧ t.result.toNat < 2 ^ t.rlen.toNat := by
  obtain ⟨t, ht, -, hdone, -, -, -, -, -, -, -, hrlen, -, hrem, hfits⟩ :=
    startComputesTheCrcRemainder (State.loaded c m d) (loaded_inv h) rfl (loaded_rejectsStart h) rfl
  refine ⟨t, ?_, hdone, hrlen, hrem, hfits⟩
  rw [show 2 * m.length + 2 = 1 + (2 * m.length + 1) by omega]
  exact ht

/-- In characteristic 2 a message followed by its remainder is a multiple of the divisor (R170). -/
theorem crcRemainder_append_remainder {m d R : List Bool} (hd : d.head? = some true) (hlen : R.length = d.length - 1)
    (hR : poly R = crcRemainder m d) : crcRemainder (m ++ R) d = 0 := by
  have hsum : poly (m ++ R) = poly d * ((poly m * X ^ (d.length - 1)) /ₘ poly d) := by
    have hdiv := modByMonic_add_div (poly m * X ^ (d.length - 1)) (poly d)
    have htwo : poly R + poly R = 0 := CharTwo.add_self_eq_zero _
    rw [← crcRemainder, ← hR] at hdiv
    rw [poly_append, hlen]
    linear_combination htwo - hdiv
  rw [crcRemainder, (modByMonic_eq_zero_iff_dvd (monic_poly hd)), hsum]
  exact (Dvd.intro _ rfl).mul_right _

/-- Settles O47: the second computation's remainder is 0, so its r result bits are 0, and RESULT has no others. -/
theorem roundTripGivesTheZeroRemainder : Obligations.RoundTripGivesTheZeroRemainder := by
  intro c m d hvalid hroom
  obtain ⟨t, ht, -, htlen, htrem, -⟩ := loaded_delivers hvalid
  obtain ⟨hlegal, -, htwo, hdiv, hhead⟩ := hvalid
  have hlen : (remainderBits t.rlen.toNat t.result).length = d.length - 1 := by simp [remainderBits, htlen]
  have hvalid' : ValidInputs c (m ++ remainderBits t.rlen.toNat t.result) d :=
    ⟨hlegal, by rw [List.length_append, hlen]; exact hroom, htwo, hdiv, hhead⟩
  obtain ⟨u, hu, hudone, hulen, hurem, hufits⟩ := loaded_delivers hvalid'
  rw [crcRemainder_append_remainder hhead hlen htrem, poly_eq_zero_iff] at hurem
  exact ⟨t, u, _, ht, rfl, hu, hudone, eq_zero_of_remainderBits hufits hurem, hulen⟩

end Sys2Proof.Machine

/-! ### Schedules (42_engine.md R168, 20_memory.md R71) -/

namespace Sys2Proof.Machine

/-- What a run of the engine depends on and delivers, as a state with everything else at its reset value: the divisor, the buffer
and the count while RUN, the results while IDLE. -/
def State.computation (s : State) : State :=
  match s.eng with
  | .run => { State.reset with eng := .run, D := s.D, divLen := s.divLen, W := s.W, steps := s.steps }
  | .idle => { State.reset with result := s.result, rlen := s.rlen, steps := s.steps }

theorem computation_run {s : State} (h : s.eng = .run) :
    s.computation = { State.reset with eng := .run, D := s.D, divLen := s.divLen, W := s.W, steps := s.steps } := by
  rw [State.computation, h]

theorem computation_idle {s : State} (h : s.eng = .idle) :
    s.computation = { State.reset with result := s.result, rlen := s.rlen, steps := s.steps } := by
  rw [State.computation, h]

@[simp] theorem computation_eng (s : State) : s.computation.eng = s.eng := by
  cases h : s.eng with
  | idle => rw [computation_idle h]; rfl
  | run => rw [computation_run h]

/-- A state with the computation of an idle one is idle with the same results. -/
theorem results_of_computation_eq {s u : State} (h : s.computation = u.computation) (hidle : u.eng = .idle) :
    s.eng = .idle ∧ s.result = u.result ∧ s.rlen = u.rlen ∧ s.steps = u.steps := by
  have hs : s.eng = .idle := by rw [← computation_eng s, h, computation_eng, hidle]
  rw [computation_idle hs, computation_idle hidle] at h
  exact ⟨hs, (congrArg State.result h :), (congrArg State.rlen h :), (congrArg State.steps h :)⟩

/-! The engine's turns on a computation. -/

/-- The engine's turn on a computation alone. -/
def State.advance (c : State) : State := c.turn.computation

/-- The engine reads nothing of a state but its computation. -/
theorem turn_computation (s : State) : s.turn.computation = s.computation.advance := by
  rw [State.advance]
  cases h : s.eng with
  | idle =>
    have hc : s.computation.eng = .idle := (computation_eng s).trans h
    rw [turn_idle h, turn_idle hc, computation_idle hc, computation_idle h]
  | run =>
    have hc : s.computation.eng = .run := (computation_eng s).trans h
    have hW : s.computation.W = s.W := by rw [computation_run h]
    have hwidth : s.computation.width = s.width := by rw [computation_run h]; rfl
    rw [turn_run h, turn_run hc]
    obtain hw | hle := Nat.lt_or_ge s.width s.W.length
    · have hrun : s.iterate.eng = .run := h
      rw [engineRun_of_lt hw, engineRun_of_lt (by rwa [hW, hwidth]), computation_run hrun, computation_run h]
      rfl
    · rw [engineRun_of_le hle, engineRun_of_le (by rwa [hW, hwidth]), computation_run h]
      rfl

/-- A computation that has ended stays as it is. -/
theorem iterate_advance_of_idle {s : State} (h : s.eng = .idle) (k : Nat) :
    State.advance^[k] s.computation = s.computation := by
  refine Function.iterate_fixed ?_ k
  rw [← turn_computation, turn_idle h]

/-- The engine's turns end a computation: one turn more than the measure of R161 and R167 allows iterations. -/
theorem iterate_advance_ends (k : Nat) {s : State} (hinv : s.Inv) (hrun : s.eng = .run)
    (hk : 2 * s.W.length ≤ k + 2 * s.width + (s.W.head? == some true).toNat) :
    (State.advance^[k + 1] s.computation).eng = .idle := by
  rw [Function.iterate_succ_apply, ← turn_computation, turn_run hrun]
  obtain hw | hle := Nat.lt_or_ge s.width s.W.length
  · have hmeasure := iterate_measure_lt hinv hrun hw
    have hwidth : s.iterate.width = s.width := rfl
    rw [engineRun_of_lt hw]
    cases k with
    | zero =>
      have hhead : (s.W.head? == some true).toNat ≤ 1 := Bool.toNat_le _
      omega
    | succ k => exact iterate_advance_ends k (iterate_inv hinv hrun) hrun (by omega)
  · have hidle : s.padFinish.eng = .idle := rfl
    rw [engineRun_of_le hle, iterate_advance_of_idle hidle, computation_eng, hidle]

/-! What a quiet input makes of a computation. -/

/-- Whatever the host does but START and CLEAR, it leaves the computation of the engine as it is. -/
theorem exec_computation {i : Instr} {s t : State} (h : exec i s = .next t) (hstart : i ≠ .start) (hclear : i ≠ .clear) :
    t.computation = s.computation := by
  cases heng : s.eng with
  | idle =>
    obtain ⟨hresult, hrlen, hsteps, -⟩ := exec_keeps_results h hstart hclear
    have hidle : t.eng = .idle := by
      cases ht : t.eng with
      | idle => rfl
      | run =>
        obtain ⟨hbegins, -⟩ := exec_begins_run h heng ht
        exact absurd hbegins hstart
    rw [computation_idle hidle, computation_idle heng, hresult, hrlen, hsteps]
  | run =>
    cases decidedEffect_of_exec h with
    | read | noEffect | ctrl | rejected | ack | cmdRsvd => rfl
    | divPush _ hidle | msgPush _ hidle | clrMsg hidle | clrDiv hidle => simp [heng] at hidle
    | clear => exact absurd rfl hclear
    | startFails | startRuns => exact absurd rfl hstart

theorem exec_inputs {i : Instr} {s t : State} (h : exec i s = .next t) : t.inputs = s.inputs := by
  cases decidedEffect_of_exec h with
  | read | noEffect | ctrl | rejected | clear | startRuns | clrMsg | clrDiv | ack | cmdRsvd => rfl
  | divPush data =>
    obtain ⟨D, n, bad, ovf, heq⟩ := exists_appendDiv_eq s data
    rw [heq]
  | msgPush data =>
    obtain ⟨M, n, bad, ovf, heq⟩ := exists_appendMsg_eq s data
    rw [heq]
  | startFails => rw [failStart_eq]; rfl

theorem engineStep_inputs {s t : State} (h : engineStep s = .next t) : t.inputs = s.inputs := by
  obtain ⟨-, rfl⟩ | ⟨-, -, rfl⟩ | ⟨-, -, rfl⟩ := engineStep_next_cases h <;> rfl

/-- A quiet input is performed, and takes the computation on by a turn of the engine or not at all. -/
theorem performInput_quiet {i : Input} {s : State} (hinv : s.Inv) (hquiet : i.quiet = true) :
    ∃ t j, performInput i s = .next t ∧ t.inputs = s.inputs ∧ t.computation = State.advance^[j] s.computation := by
  cases i with
  | transaction k =>
    obtain ⟨hclear, hstart⟩ : decodeKey k ≠ .clear ∧ decodeKey k ≠ .start := by simpa [Input.quiet] using hquiet
    obtain ⟨t, ht, -⟩ := exists_exec_eq_next (decodeKey k) s
    exact ⟨t, 0, ht, exec_inputs ht, exec_computation ht hstart hclear⟩
  | engineTurn =>
    have hturn := engineStep_eq_turn hinv
    exact ⟨s.turn, 1, hturn, engineStep_inputs hturn, turn_computation s⟩
  | busAccess | transactionInReset | reset => cases hquiet

/-! Whole runs. -/

/-- A quiet schedule performed to its end amounts to some number of the engine's turns. -/
theorem runSteps_schedule {s : State} (hinv : s.Inv) (hquiet : ∀ i ∈ s.inputs, i.quiet = true) :
    ∃ t j, runSteps s.inputs.length s = .next t ∧ t.Inv ∧ t.inputs = [] ∧
      t.computation = State.advance^[j] s.computation := by
  induction hin : s.inputs generalizing s with
  | nil => exact ⟨s, 0, rfl, hinv, hin, rfl⟩
  | cons i rest ih =>
    rw [hin, List.forall_mem_cons] at hquiet
    obtain ⟨hi, hrest⟩ := hquiet
    have hinv' : { s with inputs := rest }.Inv := hinv
    obtain ⟨u, j, hu, huin, hucomp⟩ := performInput_quiet hinv' hi
    rw [← step_of_cons hin] at hu
    obtain ⟨t, l, ht, htinv, htin, htcomp⟩ := ih (step_inv hinv hu) (huin ▸ hrest) huin
    refine ⟨t, l + j, (runSteps_succ _ hu).trans ht, htinv, htin, ?_⟩
    rw [htcomp, hucomp, ← Function.iterate_add_apply]
    rfl

/-- Every step of the engine alone is one of its turns. -/
theorem runSteps_alone (k : Nat) {s : State} (hinv : s.Inv) (hin : s.inputs = []) :
    ∃ t, runSteps k s = .next t ∧ t.computation = State.advance^[k] s.computation := by
  induction k generalizing s with
  | zero => exact ⟨s, rfl, rfl⟩
  | succ k ih =>
    have hturn := engineStep_eq_turn hinv
    have hin' : s.turn.inputs = [] := (engineStep_inputs hturn).trans hin
    obtain ⟨t, ht, hcomp⟩ := ih (engineStep_inv hinv hturn) hin'
    refine ⟨t, (runSteps_succ k ((step_of_nil hin).trans hturn)).trans ht, ?_⟩
    rw [hcomp, turn_computation, Function.iterate_succ_apply]

/-- Settles O48: the schedule puts some of the engine's turns earlier, and turns after the end of a computation do nothing. -/
theorem scheduleDoesNotChangeTheResult : Obligations.ScheduleDoesNotChangeTheResult := by
  intro s hinv hprog hrun hquiet
  have hinv' : { s with inputs := [] }.Inv := hinv
  have hcomp : { s with inputs := [] }.computation = s.computation := rfl
  obtain ⟨v, j, hv, hvinv, hvin, hvcomp⟩ := runSteps_schedule hinv hquiet
  obtain ⟨t, ht, htcomp⟩ := runSteps_alone (2 * s.msgLen + 1) hvinv hvin
  obtain ⟨u, hu, hucomp⟩ := runSteps_alone (2 * s.msgLen + 1) hinv' rfl
  have huidle : u.eng = .idle := by
    obtain ⟨-, hrunning⟩ := hprog
    obtain ⟨-, -, -, hmeasure⟩ := hrunning hrun
    rw [← computation_eng u, hucomp, hcomp]
    exact iterate_advance_ends (2 * s.msgLen) hinv hrun (by omega)
  have hsame : t.computation = u.computation :=
    calc t.computation = State.advance^[2 * s.msgLen + 1] (State.advance^[j] s.computation) := by rw [htcomp, hvcomp]
      _ = State.advance^[j] (State.advance^[2 * s.msgLen + 1] s.computation) := by
        rw [← Function.iterate_add_apply, Nat.add_comm, Function.iterate_add_apply]
      _ = u.computation := by rw [← hcomp, ← hucomp, iterate_advance_of_idle huidle]
  obtain ⟨htidle, hresults⟩ := results_of_computation_eq hsame huidle
  exact ⟨t, u, (runSteps_add _ _ hv).trans ht, hu, htidle, huidle, hresults⟩

end Sys2Proof.Machine

/-! ### Errors (60_exceptions.md R180 to R195) -/

namespace Sys2Proof.Machine

/-! Transactions always complete. -/

/-- An instruction returns at most one value to the host, and takes none back. -/
theorem exec_replies_prefix {i : Instr} {s t : State} (h : exec i s = .next t) : s.replies <+: t.replies := by
  have keeps {u : State} (heq : u.replies = s.replies) : s.replies <+: u.replies := heq ▸ List.prefix_rfl
  cases decidedEffect_of_exec h with
  | read i v => exact List.prefix_append s.replies [v]
  | noEffect | ctrl | rejected | clear | startRuns | clrMsg | clrDiv | ack | cmdRsvd => exact keeps rfl
  | divPush data =>
    obtain ⟨D, n, bad, ovf, heq⟩ := exists_appendDiv_eq s data
    exact keeps (heq ▸ rfl)
  | msgPush data =>
    obtain ⟨M, n, bad, ovf, heq⟩ := exists_appendMsg_eq s data
    exact keeps (heq ▸ rfl)
  | startFails =>
    rw [failStart_eq]
    exact keeps rfl

/-- Settles O9: every instruction has one of the effects, and none of these touches the parameters or the inputs. -/
theorem everyTransactionAnswersANextState : Obligations.EveryTransactionAnswersANextState := by
  intro i s
  obtain ⟨t, ht, -⟩ := exists_exec_eq_next i s
  exact ⟨t, ht, exec_cfg ht, exec_inputs ht, exec_replies_prefix ht⟩

/-! The writes rejected while BUSY. -/

/-- The five writes that R184 has rejected while a computation runs. -/
def RejectedWhileBusy (i : Instr) : Prop :=
  (∃ data, i = .wrDivPush data) ∨ (∃ data, i = .wrMsgPush data) ∨ i = .start ∨ i = .clrMsg ∨ i = .clrDiv

theorem exec_of_rejectedWhileBusy {i : Instr} {s : State} (hrun : s.eng = .run) (hi : RejectedWhileBusy i) :
    exec i s = .next (s.raise .busy) := by
  have rejects (f : State → State) : Host.Outcome.next (s.unlessBusy f) = (.next (s.raise .busy) : Out) :=
    congrArg _ (unlessBusy_run s f hrun)
  obtain ⟨data, rfl⟩ | ⟨data, rfl⟩ | rfl | rfl | rfl := hi <;> exact rejects _

/-- Settles O18: each of the five writes is guarded, and what the guard raises shows in STATUS. -/
theorem busyWritesAreRejected : Obligations.BusyWritesAreRejected :=
  fun _ s hrun hi => ⟨s.raise .busy, exec_of_rejectedWhileBusy hrun hi, rfl, raise_status_getLsbD s .busy⟩

/-! START's validation. -/

theorem invalidDivisor_iff (s : State) : s.invalidDivisor = true ↔ s.divLen < 2 ∨ s.D.head? ≠ some true := by
  simp [State.invalidDivisor]

theorem invalidBit_iff (s : State) : s.invalidBit = true ↔ s.msgBad = true ∨ s.divBad = true := by
  simp [State.invalidBit]

theorem capacityExceeded_iff (s : State) : s.capacityExceeded = true ↔ s.msgOvf = true ∨ s.divOvf = true := by
  simp [State.capacityExceeded]

theorem exec_start_idle {s : State} (hidle : s.eng = .idle) : exec .start s = .next s.acceptStart.validateStart :=
  congrArg Host.Outcome.next (unlessBusy_idle s (fun t => t.acceptStart.validateStart) hidle)

theorem exec_start_invalid {s : State} (hidle : s.eng = .idle) (hbad : s.rejectsStart = true) :
    exec .start s = .next s.acceptStart.failStart := by
  have hbad' : s.acceptStart.rejectsStart = true := hbad
  rw [exec_start_idle hidle, State.validateStart, if_pos hbad']

/-- A START that fails, after the earlier events are cleared: each flag is its condition. -/
theorem acceptStart_failStart_eq (s : State) :
    s.acceptStart.failStart =
      { s.acceptStart with errInvDiv := s.invalidDivisor, errInvBit := s.invalidBit, errCap := s.capacityExceeded } := by
  have hclear : s.acceptStart.errInvDiv = false ∧ s.acceptStart.errInvBit = false ∧ s.acceptStart.errCap = false :=
    ⟨rfl, rfl, rfl⟩
  simp only [failStart_eq, hclear, Bool.or_false]
  rfl

/-- Settles O25: the hypotheses say that the three flags are validation's conditions, and a START that fails sets its flags to
exactly these. -/
theorem invalidStartReportsEveryCondition : Obligations.InvalidStartReportsEveryCondition := by
  intro s invDiv invBit cap hidle hinvDiv hinvBit hcap hsome
  obtain rfl : s.invalidDivisor = invDiv := Bool.eq_iff_iff.mpr ((invalidDivisor_iff s).trans hinvDiv.symm)
  obtain rfl : s.invalidBit = invBit := Bool.eq_iff_iff.mpr ((invalidBit_iff s).trans hinvBit.symm)
  obtain rfl : s.capacityExceeded = cap := Bool.eq_iff_iff.mpr ((capacityExceeded_iff s).trans hcap.symm)
  have hbad : s.rejectsStart = true := hsome
  rw [exec_start_invalid hidle hbad, acceptStart_failStart_eq]
  rfl

/-! Where the error flags rise. -/

/-- The cause of an error, "Raised by" in R181 to R185: the state and the instruction at which its flag may rise. -/
def State.causes (s : State) (i : Instr) : ErrorFlag → Prop
  | .invDiv => i = .start ∧ s.eng = .idle ∧ s.invalidDivisor = true
  | .invBit => i = .start ∧ s.eng = .idle ∧ s.invalidBit = true
  | .cap => i = .start ∧ s.eng = .idle ∧ s.capacityExceeded = true
  | .busy => s.eng = .run ∧ RejectedWhileBusy i
  | .cmd => ∃ word, i = .cmdRsvd word

theorem raise_error (s : State) (e e' : ErrorFlag) : (s.raise e).error e' = (decide (e = e') || s.error e') := by
  cases e' <;> simp [State.error]

/-- Only the raised error's flag can have risen. -/
theorem eq_of_raise_error {s : State} {e e' : ErrorFlag} (hwas : s.error e' = false) (hnow : (s.raise e).error e' = true) :
    e = e' := by
  simpa [raise_error, hwas] using hnow

theorem clearEvents_error (s : State) (e : ErrorFlag) : s.clearEvents.error e = false := by
  cases e <;> rfl

theorem appendDiv_error (s : State) (data : Word) (e : ErrorFlag) : (s.appendDiv data).error e = s.error e := by
  obtain ⟨D, n, bad, ovf, heq⟩ := exists_appendDiv_eq s data
  rw [heq]
  rfl

theorem appendMsg_error (s : State) (data : Word) (e : ErrorFlag) : (s.appendMsg data).error e = s.error e := by
  obtain ⟨M, n, bad, ovf, heq⟩ := exists_appendMsg_eq s data
  rw [heq]
  rfl

/-- A guarded write raises ERR_BUSY by its guard, and any other error only by the write that is guarded. -/
theorem causes_of_unlessBusy {s : State} {i : Instr} {f : State → State} {e : ErrorFlag} (hi : RejectedWhileBusy i)
    (hwas : s.error e = false) (hnow : (s.unlessBusy f).error e = true)
    (hf : s.eng = .idle → (f s).error e = true → s.causes i e) : s.causes i e := by
  obtain ⟨hrun, heq⟩ | ⟨hidle, heq⟩ := unlessBusy_cases s f
  · rw [heq] at hnow
    obtain rfl := eq_of_raise_error hwas hnow
    exact ⟨hrun, hi⟩
  · exact hf hidle (heq ▸ hnow)

/-- After an accepted START an error flag is 1 only for a validation condition that holds. -/
theorem causes_of_start {s : State} {e : ErrorFlag} (hidle : s.eng = .idle)
    (hnow : s.acceptStart.validateStart.error e = true) : s.causes .start e := by
  obtain ⟨-, heq⟩ | ⟨-, heq⟩ := validateStart_cases s.acceptStart
  · rw [heq, acceptStart_failStart_eq] at hnow
    cases e with
    | invDiv | invBit | cap => exact ⟨rfl, hidle, hnow⟩
    | busy | cmd => cases hnow
  · have hclear : s.acceptStart.validateStart.error e = false := heq ▸ clearEvents_error s e
    simp [hclear] at hnow

/-- An instruction raises an error only at its cause. -/
theorem exec_raises {i : Instr} {s t : State} {e : ErrorFlag} (h : exec i s = .next t) (hwas : s.error e = false)
    (hnow : t.error e = true) : s.causes i e := by
  have unchanged {u : State} (heq : u.error e = s.error e) (hu : u.error e = true) : s.causes i e := by
    simp [heq, hwas] at hu
  cases execEffect_of_exec h with
  | read | noEffect | ctrl => exact unchanged rfl hnow
  | divPush data =>
    exact causes_of_unlessBusy (.inl ⟨data, rfl⟩) hwas hnow fun _ => unchanged (appendDiv_error s data e)
  | msgPush data =>
    exact causes_of_unlessBusy (.inr (.inl ⟨data, rfl⟩)) hwas hnow fun _ => unchanged (appendMsg_error s data e)
  | start => exact causes_of_unlessBusy (.inr (.inr (.inl rfl))) hwas hnow causes_of_start
  | clrMsg => exact causes_of_unlessBusy (.inr (.inr (.inr (.inl rfl)))) hwas hnow fun _ => unchanged rfl
  | clrDiv => exact causes_of_unlessBusy (.inr (.inr (.inr (.inr rfl)))) hwas hnow fun _ => unchanged rfl
  | clear | ack => exact unchanged ((clearEvents_error s e).trans hwas.symm) hnow
  | cmdRsvd word =>
    obtain rfl := eq_of_raise_error hwas hnow
    exact ⟨word, rfl⟩

/-- The engine raises and clears no error (R194). -/
theorem engineStep_error {s t : State} (h : engineStep s = .next t) (e : ErrorFlag) : t.error e = s.error e := by
  obtain ⟨-, rfl⟩ | ⟨-, -, rfl⟩ | ⟨-, -, rfl⟩ := engineStep_next_cases h <;> rfl

/-- Of the three agents only the host raises an error, by an instruction that is its cause. -/
theorem step_raises {s t : State} {e : ErrorFlag} (h : step s = .next t) (hwas : s.error e = false)
    (hnow : t.error e = true) : s.nextTransaction fun j => s.causes j e := by
  obtain ⟨i, rest, j, hin, hij, hj⟩ | ⟨-, he⟩ | ⟨rest, -, rfl⟩ := step_agent_cases h
  · have hcause : { s with inputs := rest }.causes j e := exec_raises hj hwas hnow
    exact ⟨i, rest, j, hin, hij, hcause⟩
  · have hsame : t.error e = s.error e := engineStep_error he e
    simp [hsame, hwas] at hnow
  · have hclear : { s with inputs := rest }.resetEvent.error e = false := by cases e <;> rfl
    simp [hclear] at hnow

/-- A condition on the state that the next transaction comes with is a condition on the state alone. -/
theorem nextTransaction_and {s : State} {P : Instr → Prop} {q : Prop} (h : s.nextTransaction fun j => P j ∧ q) :
    s.nextTransaction P ∧ q := by
  obtain ⟨i, rest, j, hin, hij, hP, hq⟩ := h
  exact ⟨⟨i, rest, j, hin, hij, hP⟩, hq⟩

/-- Settles O26: the cause of each error, as step_raises finds it, is the one the rule names. -/
theorem errorFlagsRiseOnlyAtTheirCause : Obligations.ErrorFlagsRiseOnlyAtTheirCause := by
  intro s t h
  simp only [← invalidDivisor_iff, ← invalidBit_iff, ← capacityExceeded_iff]
  refine ⟨fun hwas hnow => ?_, fun hwas hnow => ?_, fun hwas hnow => ?_, fun hwas hnow => ?_, fun hwas hnow => ?_⟩
  · exact nextTransaction_and (step_raises (e := .invDiv) h hwas hnow)
  · exact nextTransaction_and (step_raises (e := .invBit) h hwas hnow)
  · exact nextTransaction_and (step_raises (e := .cap) h hwas hnow)
  · obtain ⟨i, rest, j, hin, hij, hrun, hj⟩ := step_raises (e := .busy) h hwas hnow
    exact ⟨hrun, i, rest, j, hin, hij, hj⟩
  · exact step_raises (e := .cmd) h hwas hnow

/-! Where a computation ends. -/

/-- CLEAR is the only instruction that ends a computation (41_commands.md R132). -/
theorem exec_ends_run {i : Instr} {s t : State} (h : exec i s = .next t) (hrun : s.eng = .run) (hidle : t.eng = .idle) :
    i = .clear := by
  have stays {u : State} (heng : u.eng = s.eng) : ¬ u.eng = .idle := by simp [heng, hrun]
  cases decidedEffect_of_exec h with
  | read | noEffect | ctrl | rejected | ack | cmdRsvd => exact absurd hidle (stays rfl)
  | divPush _ hwas | msgPush _ hwas | startFails hwas | startRuns hwas | clrMsg hwas | clrDiv hwas => simp [hrun] at hwas
  | clear => rfl

/-- The engine ends a computation by the finish, which sets DONE, exactly where |W| ≤ r. -/
theorem engineStep_ends_run_or_goes_on {s t : State} (h : engineStep s = .next t) (hrun : s.eng = .run) :
    (s.W.length ≤ s.width ∧ t.eng = .idle ∧ t.done = true) ∨ (s.width < s.W.length ∧ t.eng = .run) := by
  obtain ⟨hidle, -⟩ | ⟨-, hle, rfl⟩ | ⟨-, hlt, rfl⟩ := engineStep_next_cases h
  · simp [hrun] at hidle
  · exact .inl ⟨hle, rfl, rfl⟩
  · exact .inr ⟨hlt, hrun⟩

theorem engineStep_ends_run {s t : State} (h : engineStep s = .next t) (hrun : s.eng = .run) (hidle : t.eng = .idle) :
    t.done = true ∧ s.W.length ≤ s.width := by
  obtain ⟨hle, -, hdone⟩ | ⟨-, hrun'⟩ := engineStep_ends_run_or_goes_on h hrun
  · exact ⟨hdone, hle⟩
  · simp [hidle] at hrun'

theorem engineStep_ends_run_iff {s t : State} (h : engineStep s = .next t) (hrun : s.eng = .run) :
    t.eng = .idle ↔ s.W.length ≤ s.width := by
  obtain ⟨hle, hidle, -⟩ | ⟨hlt, hrun'⟩ := engineStep_ends_run_or_goes_on h hrun
  · simp [hle, hidle]
  · simp [hlt.not_ge, hrun']

/-- Of the three agents the engine ends a computation by a finish, the host by CLEAR, and the reset by its event. -/
theorem step_ends_run {s t : State} (h : step s = .next t) (hrun : s.eng = .run) (hidle : t.eng = .idle) :
    (t.done = true ∧ s.W.length ≤ s.width ∧ (s.inputs = [] ∨ ∃ rest, s.inputs = .engineTurn :: rest)) ∨
    s.nextTransaction (fun j => j = .clear) ∨ s.nextReset := by
  obtain ⟨i, rest, j, hin, hij, hj⟩ | ⟨hturn, he⟩ | ⟨rest, hin, -⟩ := step_agent_cases h
  · have hclear : j = .clear := exec_ends_run hj hrun hidle
    exact .inr (.inl ⟨i, rest, j, hin, hij, hclear⟩)
  · obtain ⟨hdone, hle⟩ := engineStep_ends_run he hrun hidle
    exact .inl ⟨hdone, hle, hturn⟩
  · exact .inr (.inr ⟨rest, hin⟩)

/-- Settles O32: engineStep_error says that no flag changes; of the engine's steps only the finish ends a run, and of the
instructions only CLEAR. -/
theorem runRaisesNoErrorAndEndsByItsEvents : Obligations.RunRaisesNoErrorAndEndsByItsEvents := by
  refine ⟨fun s hinv hrun => ?_, fun s t hrun h hidle => step_ends_run h hrun hidle⟩
  have hturn := engineStep_run hinv hrun
  have herror := engineStep_error hturn
  exact ⟨s.engineRun, hturn, herror .invDiv, herror .invBit, herror .cap, herror .busy, herror .cmd,
    engineStep_ends_run_iff hturn hrun⟩

/-! The interrupt. -/

theorem irq_iff (s : State) :
    s.irq = true ↔ s.ie = true ∧ (s.done = true ∨ s.errInvDiv = true ∨ s.errInvBit = true ∨ s.errCap = true ∨
      s.errBusy = true ∨ s.errCmd = true) := by
  simp [State.irq, or_assoc]

/-- Settles O27: irq is computed from these flags, and STATUS shows it at its bit. -/
theorem irqIsALevelOfTheFlags : Obligations.IrqIsALevelOfTheFlags :=
  ⟨fun s => ⟨irq_iff s, status_getLsbD s 7⟩, rfl⟩

end Sys2Proof.Machine

/-! ### The calling protocol (70_reset_and_hazards.md R213) -/

namespace Sys2Proof.Machine

/-! A bit's symbol word is valid and stands for the bit (30_encoding.md R86). -/

@[simp] theorem symbolValid_symbolWord (b : Bool) : symbolValid (symbolWord b) = true := by cases b <;> rfl

@[simp] theorem symbolBit_symbolWord (b : Bool) : symbolBit (symbolWord b) = b := by cases b <;> rfl

/-- The push of a valid symbol to a divisor store with room appends the bit and sets no input flag. -/
theorem exec_divPush_bit {s : State} (hidle : s.eng = .idle) (hroom : s.divLen < s.cfg.divCap) (b : Bool) :
    exec (decodeKey (writeKey 5#4 (symbolWord b))) s = .next { s with D := s.D ++ [b], divLen := s.divLen + 1 } := by
  have hdec : decodeKey (writeKey 5#4 (symbolWord b)) = .wrDivPush (symbolWord b) := decodeKey_writeKey _ _
  rw [hdec, exec_wrDivPush_idle hidle, appendDiv_room s _ hroom.ne]
  simp

theorem exec_msgPush_bit {s : State} (hidle : s.eng = .idle) (hroom : s.msgLen < s.cfg.msgCap) (b : Bool) :
    exec (decodeKey (writeKey 6#4 (symbolWord b))) s = .next { s with M := s.M ++ [b], msgLen := s.msgLen + 1 } := by
  have hdec : decodeKey (writeKey 6#4 (symbolWord b)) = .wrMsgPush (symbolWord b) := decodeKey_writeKey _ _
  rw [hdec, exec_wrMsgPush_idle hidle, appendMsg_room s _ hroom.ne]
  simp

/-- Where the push of each bit takes the block from `load l` to `load (l ++ [b])` as long as l is shorter than the capacity, the
pushes of a sequence that fits append the whole of it, first element first (20_memory.md R65). -/
theorem runSteps_pushes {load : List Bool → State} {key : Bool → Key} {cap : Nat}
    (hpush : ∀ l b rest, l.length < cap →
      exec (decodeKey (key b)) { load l with inputs := rest } = .next { load (l ++ [b]) with inputs := rest })
    (l bs : List Bool) (rest : List Input) (hroom : l.length + bs.length ≤ cap) :
    runSteps bs.length { load l with inputs := bs.map (fun b => .transaction (key b)) ++ rest } =
      .next { load (l ++ bs) with inputs := rest } := by
  induction bs generalizing l with
  | nil => rw [List.append_nil]; rfl
  | cons b bs ih =>
    rw [List.length_cons] at hroom
    have hstep := (step_of_transaction
        (s := { load l with inputs := (b :: bs).map (fun b => .transaction (key b)) ++ rest }) rfl).trans
      (hpush l b _ (by omega))
    have htail := ih (l ++ [b]) (by rw [List.length_append, List.length_singleton]; omega)
    rw [List.append_assoc] at htail
    exact (runSteps_succ _ hstep).trans htail

/-- The divisor's pushes into the empty block. -/
theorem runSteps_divisor_pushes {c : Config} {d : List Bool} (hroom : d.length ≤ c.divCap) (rest : List Input) :
    runSteps d.length { State.resetWith c with
        inputs := d.map (fun b => .transaction (writeKey 5#4 (symbolWord b))) ++ rest } =
      .next { State.loaded c [] d with inputs := rest } := by
  refine runSteps_pushes (load := State.loaded c []) (cap := c.divCap) (fun l b rest hl => ?_) [] d rest (by simpa using hroom)
  refine (exec_divPush_bit rfl hl b).trans ?_
  simp [State.loaded]

/-- The message's pushes into the block that holds the divisor. -/
theorem runSteps_message_pushes {c : Config} {m : List Bool} (d : List Bool) (hroom : m.length ≤ c.msgCap)
    (rest : List Input) :
    runSteps m.length { State.loaded c [] d with
        inputs := m.map (fun b => .transaction (writeKey 6#4 (symbolWord b))) ++ rest } =
      .next { State.loaded c m d with inputs := rest } := by
  refine runSteps_pushes (load := fun l => State.loaded c l d) (cap := c.msgCap) (fun l b rest hl => ?_) [] m rest
    (by simpa using hroom)
  refine (exec_msgPush_bit rfl hl b).trans ?_
  simp [State.loaded]

/-- The pushes of the calling protocol leave the two stores filled and its START as the one input to come. -/
theorem runSteps_callScript {c : Config} {m d : List Bool} (hmsg : m.length ≤ c.msgCap) (hdiv : d.length ≤ c.divCap) :
    runSteps (d.length + m.length) { State.resetWith c with inputs := callScript m d } = .next (State.loaded c m d) :=
  (runSteps_add d.length m.length (runSteps_divisor_pushes hdiv _)).trans (runSteps_message_pushes d hmsg _)

/-- Settles O46: the pushes load the block, and START on a loaded block computes the remainder (O45). -/
theorem callingProtocolDeliversTheRemainder : Obligations.CallingProtocolDeliversTheRemainder := by
  intro c m d hvalid
  obtain ⟨t, ht, hidle, hdone, hinvDiv, hinvBit, hcap, hbusy, hcmd, hM, hD, hrlen, -, hrem, -⟩ :=
    startComputesTheCrcRemainder (State.loaded c m d) (loaded_inv hvalid) rfl (loaded_rejectsStart hvalid) rfl
  obtain ⟨-, hmsg, -, hdiv, -⟩ := hvalid
  refine ⟨t, ?_, hidle, hdone, hinvDiv, hinvBit, hcap, hbusy, hcmd, hM, hD, hrlen, hrem⟩
  rw [Nat.add_assoc (d.length + m.length)]
  exact (runSteps_add _ _ (runSteps_callScript hmsg hdiv)).trans ht

end Sys2Proof.Machine

/-! ### What a running computation is safe from (70_reset_and_hazards.md R220, R222) -/

namespace Sys2Proof.Machine

/-- While RUN an instruction other than CLEAR writes only the enable, the event flags and the host's record: the writes to the
stores and START are rejected with ERR_BUSY. -/
theorem exists_exec_run_eq {i : Instr} {s t : State} (h : exec i s = .next t) (hrun : s.eng = .run) (hclear : i ≠ .clear) :
    ∃ ie done invDiv invBit cap busy cmd replies,
      t = { s with
        ie := ie, done := done, errInvDiv := invDiv, errInvBit := invBit, errCap := cap, errBusy := busy, errCmd := cmd
        replies := replies } := by
  cases decidedEffect_of_exec h with
  | read | noEffect | ctrl | rejected | ack | cmdRsvd => exact ⟨_, _, _, _, _, _, _, _, rfl⟩
  | divPush _ hidle | msgPush _ hidle | startFails hidle | startRuns hidle | clrMsg hidle | clrDiv hidle =>
    simp [hrun] at hidle
  | clear => exact absurd rfl hclear

/-- Settles O49: an instruction that does not abort the run leaves STEPS, ITERATE counts one more without wrapping, and a finish,
a CLEAR or a reset ends the run. -/
theorem stepsNeverDecreaseDuringARun : Obligations.StepsNeverDecreaseDuringARun := by
  intro s t hinv hprog hrun h hrun'
  obtain ⟨_, rest, j, -, -, hj⟩ | ⟨-, he⟩ | ⟨_, -, rfl⟩ := step_agent_cases h
  · have hclear : j ≠ .clear := by
      rintro rfl
      rw [exec_clear] at hj
      cases hj
      cases hrun'
    obtain ⟨_, _, _, _, _, _, _, _, rfl⟩ := exists_exec_run_eq hj hrun hclear
    exact le_rfl
  · obtain ⟨hidle, -⟩ | ⟨-, -, rfl⟩ | ⟨-, -, rfl⟩ := engineStep_next_cases he
    · simp [hrun] at hidle
    · cases hrun'
    · have hcount : { s with inputs := s.inputs.tail }.iterate.steps.toNat = s.steps.toNat + 1 :=
        iterate_steps_toNat hinv hprog
      omega
  · cases hrun'

/-- Settles O51: the host's writes to the stores are rejected while RUN, and the engine writes W but neither store. -/
theorem inputsAreFrozenWhileBusy : Obligations.InputsAreFrozenWhileBusy := by
  intro s t hrun h hnoClear hnoReset
  obtain ⟨i, rest, j, hin, hij, hj⟩ | ⟨hturn, he⟩ | ⟨rest, hin, -⟩ := step_agent_cases h
  · have hclear : j ≠ .clear := fun heq => hnoClear ⟨i, rest, j, hin, hij, heq⟩
    obtain ⟨_, _, _, _, _, _, _, _, rfl⟩ := exists_exec_run_eq hj hrun hclear
    exact ⟨rfl, rfl, rfl, rfl, rfl, rfl, rfl, rfl, .inl rfl⟩
  · obtain ⟨hidle, -⟩ | ⟨-, -, rfl⟩ | ⟨-, -, rfl⟩ := engineStep_next_cases he
    · simp [hrun] at hidle
    · exact ⟨rfl, rfl, rfl, rfl, rfl, rfl, rfl, rfl, .inr hturn⟩
    · exact ⟨rfl, rfl, rfl, rfl, rfl, rfl, rfl, rfl, .inr hturn⟩
  · exact absurd ⟨rest, hin⟩ hnoReset

end Sys2Proof.Machine

/-! ### Reset and CLEAR (70_reset_and_hazards.md R211) -/

namespace Sys2Proof.Machine

/-- Settles O20: both are the reset state with the model's own fields carried over, and CLEAR carries the enable over too. -/
theorem resetIsClearWithTheEnableCleared : Obligations.ResetIsClearWithTheEnableCleared := fun s =>
  ⟨s.cleared, exec_clear s, rfl, rfl⟩

end Sys2Proof.Machine
